-- ==== Sys2Proof/Word.lean ====
section
/-! DEFINITION. The word types of the machine (spec/00_scope.md R5) and the type of its memories. -/

namespace Sys2Proof

/-- `u8` of R5: a byte, the width of every CPU register but `PC`. -/
abbrev Byte := BitVec 8

/-- `u16` of R5: a CPU address. -/
abbrev Addr := BitVec 16

/-- `u14` of R5: a PPU address. -/
abbrev PpuAddr := BitVec 14

/-- A colour index, the entry type of the frame buffer (10_state.md R31). -/
abbrev Colour := BitVec 6

/-- A memory of `w`-bit cells: the cells that differ from what an unlisted address reads as, in strictly rising
address order (`Machine.Memory.wf`). `Memory 8` is a list of `Host.Cell`. -/
abbrev Memory (w : Nat) := List (Nat × BitVec w)

end Sys2Proof
end

