-- ==== Sys2Proof/Machine/Bits.lean ====
section
/-! DEFINITION. The byte-order, bit-field and sign-extension helpers of the notation (spec/00_scope.md R5). -/

namespace Sys2Proof.Machine

/-- `{hi, lo}`: the 16-bit value with the given bytes (R5; little-endian in memory, 20_memory.md R51). -/
def word16 (hi lo : Byte) : Addr := hi ++ lo

/-- `v[15:8]` -/
def hiByte (v : Addr) : Byte := v.extractLsb' 8 8

/-- `v[7:0]` -/
def loByte (v : Addr) : Byte := v.extractLsb' 0 8

/-- `zext_16(b)`: a zero-page address (30_encoding.md R91). -/
def zeroPage (b : Byte) : Addr := b.setWidth 16

/-- `sext_8(b)` reduced to 16 bits: a branch displacement (R5, 40_addressing_modes.md R124). -/
def sext8 (b : Byte) : Addr := b.signExtend 16

/-- `0x0100 + SP`: an address of the stack page (10_state.md R12). -/
def stackPage (sp : Byte) : Addr := 0x0100 + sp.setWidth 16

/-- Two addresses have the same high byte: they lie in one page (00_scope.md R8). -/
def samePage (u v : Addr) : Bool := decide (u &&& 0xFF00 = v &&& 0xFF00)

end Sys2Proof.Machine
end

