-- ==== Sys2Proof/Config.lean ====
section
/-! DEFINITION. The parameters of spec/00_scope.md R4: what an implementation fixes. The parameters marked OPEN there,
"an argument of the model", are the fields of `Params`, with the defaults of the table; `PALETTE_RGB`, which has no
default, is an opaque constant. The parameters marked FIXED are plain constants, `BUTTON_BIT_ORDER` among them
in Machine/Ops.lean (`buttonBitOrder`). -/

namespace Sys2Proof

/-- `ILLEGAL_OPCODE_POLICY` (00_scope.md R4, decision D4): the two treatments the source allows. -/
inductive IllegalOpcodePolicy where
  /-- an undefined opcode raises `IllegalOpcode` and the machine stops. -/
  | fault
  /-- an undefined opcode is a one-byte no-operation of 2 cycles. -/
  | nop
  deriving DecidableEq, Repr

/-- The OPEN parameters of 00_scope.md R4 with their defaults. A machine is given them once: no step changes them
(log entry 2). -/
structure Params where
  /-- `RESET_CYCLES` (D2). -/
  resetCycles : Nat := 7
  /-- `NMI_CYCLES` (D3). -/
  nmiCycles : Nat := 7
  /-- `ILLEGAL_OPCODE_POLICY` (D4). -/
  illegalOpcodePolicy : IllegalOpcodePolicy := .fault
  /-- `SPRITE_Y_OFFSET`, 0 or 1 (D15). -/
  spriteYOffset : Fin 2 := 1
  /-- `INIT_RAM` (D28): 2048 bytes. -/
  initRam : Memory 8 := []
  /-- `INIT_VRAM` (D28): 16384 bytes. -/
  initVram : Memory 8 := []
  /-- `INIT_OAM` (D28): 256 bytes. -/
  initOam : Memory 8 := []
  /-- `INIT_PRG_RAM` (D28): 8192 bytes. -/
  initPrgRam : Memory 8 := []
  /-- `INIT_CHR_RAM` (D28): 8192 bytes. -/
  initChrRam : Memory 8 := []
  deriving DecidableEq, Repr

/-- One entry of `PALETTE_RGB`. -/
structure Rgb where
  red : Byte
  green : Byte
  blue : Byte
  deriving DecidableEq, Repr, Inhabited

/-- `PALETTE_RGB` (00_scope.md R4, 47_ppu_rendering.md R262): the source's static palette table, whose 64 entries the
spec does not give. It has no body: no proof can know an entry (log entry 6). -/
opaque Config.paletteRgb : Colour → Rgb

/-- `DMA_STALL_CYCLES`, FIXED by the source (R4; 46_ppu_registers_and_timing.md R232). -/
def Config.dmaStallCycles : Nat := 513

/-- `PPU_CLOCKS_PER_CPU_CYCLE`, FIXED by the source (R4; 70_reset_and_hazards.md R326). -/
def Config.ppuClocksPerCpuCycle : Nat := 3

/-- `RENDER_X_OFFSET`, FIXED by decision D14 (R4; 47_ppu_rendering.md R250). -/
def Config.renderXOffset : Nat := 0

/-- `PAGE_CROSS_ON_WRITES`, FIXED by decision D5 (R4; 40_addressing_modes.md R111): stores and read-modify-writes
never take the page-cross bonus. -/
def Config.pageCrossOnWrites : Bool := false

end Sys2Proof
end

