-- ==== Sys2Proof/Machine/Memory.lean ====
section
/-! DEFINITION. The operations on a memory of `w`-bit cells: what an unlisted address reads as, reading one cell,
writing one cell, the canonical form, and the memory that holds a given string of bytes. -/

namespace Sys2Proof.Machine

/-- What an unlisted address of any memory reads as: 0, the default of the `INIT_*` parameters of 00_scope.md R4 and of
the frame buffer (10_state.md R31). DESIGN CHOICE of the representation, see log entry 3. -/
def Memory.blank {w : Nat} : BitVec w := 0

/-- The cell at address `k`. -/
def Memory.read {w : Nat} : Memory w → Nat → BitVec w
  | [], _ => Memory.blank
  | (a, v) :: rest, k => if k < a then Memory.blank else if k = a then v else Memory.read rest k

/-- Put a cell before a memory, unless it is what an unlisted address reads as. -/
def Memory.cell {w : Nat} (k : Nat) (v : BitVec w) (m : Memory w) : Memory w :=
  if v = Memory.blank then m else (k, v) :: m

/-- Write `v` at address `k`, keeping the canonical form. -/
def Memory.write {w : Nat} : Memory w → Nat → BitVec w → Memory w
  | [], k, v => Memory.cell k v []
  | (a, u) :: rest, k, v =>
    if k < a then Memory.cell k v ((a, u) :: rest)
    else if k = a then Memory.cell k v rest
    else (a, u) :: Memory.write rest k v

/-- The canonical form from an address on: addresses at least `low`, strictly rising, below `size`, and no listed cell
equal to what an unlisted address reads as. -/
def Memory.wfFrom {w : Nat} (size : Nat) : Nat → Memory w → Bool
  | _, [] => true
  | low, (a, v) :: rest =>
    decide (low ≤ a) && decide (a < size) && decide (v ≠ Memory.blank) && Memory.wfFrom size (a + 1) rest

/-- The canonical form of a memory of `size` cells. -/
def Memory.wf {w : Nat} (size : Nat) (m : Memory w) : Bool := Memory.wfFrom size 0 m

/-- The canonical memory whose cells from address `k` on are the given bytes. -/
def Memory.ofBytesFrom : Nat → List Byte → Memory 8
  | _, [] => []
  | k, v :: rest => Memory.cell k v (Memory.ofBytesFrom (k + 1) rest)

/-- The canonical memory whose cells from address 0 on are the given bytes. -/
def Memory.ofBytes (bytes : List Byte) : Memory 8 := Memory.ofBytesFrom 0 bytes

end Sys2Proof.Machine
end

