-- ==== Sys2Proof/Machine/State.lean ====
section
/-! DEFINITION. The state of the machine as plain data: every piece of state of spec/10_state.md, the reasons a step can
stop, and the state after reset. Quantities that the spec says are functions of others (`prg_off`, `chr_off`, the
PPUSTATUS byte) are computed, not stored. -/

namespace Sys2Proof.Machine

/-- Why the machine has no further step. -/
inductive Fault where
  /-- `IllegalOpcode(op, at)` (60_exceptions.md R301). Raised by `execIll` under the policy `fault`, which records it in
  `State.fault`; `step` then answers it from that state on. Safe: the spec gives a faulted machine no step. -/
  | illegalOpcode (opcode : Byte) (address : Addr)
  deriving DecidableEq, Repr

/-- Why the model has no next state although the machine has not faulted. -/
inductive Refusal where
  /-- An instruction with no meaning yet. Raised by `exec`'s arms only; no arm raises it now. Safe. -/
  | notModelled (mnemonic : String)
  /-- The cartridge of the state is none that `LoadImage` yields or a run reaches (bank counts or bank registers out of
  range): "every rule of this spec presupposes that it succeeded" (48_cartridge_mappers.md R271). Raised by `step` only.
  Safe: there is no such machine. -/
  | noSuchCartridge
  /-- `StepFrame` was given fewer steps than the frame needs. Raised by `stepFrameWithin` only. Safe: the model says
  nothing of the frame. -/
  | frameNotCompleted
  deriving DecidableEq, Repr

/-- A nametable mirroring mode (20_memory.md R67). -/
inductive Mirroring where
  /-- `H` -/
  | horizontal
  /-- `V` -/
  | vertical
  /-- `ONE_LO` -/
  | oneLo
  /-- `ONE_HI` -/
  | oneHi
  deriving DecidableEq, Repr

/-- `header_mirroring` (10_state.md R36): `H` or `V`. -/
inductive HeaderMirroring where
  | h
  | v
  deriving DecidableEq, Repr

/-- The state of mapper 1 (10_state.md R39). -/
structure Mmc1 where
  /-- `m1_shift` -/
  shift : BitVec 5
  /-- `m1_count`, 0 to 4 -/
  count : Nat
  /-- `m1_control` -/
  control : BitVec 5
  /-- `m1_chr0` -/
  chr0 : BitVec 5
  /-- `m1_chr1` -/
  chr1 : BitVec 5
  /-- `m1_prg` -/
  prg : BitVec 5
  /-- `m1_mirroring` -/
  mirroring : Mirroring
  /-- `prg_ram`, 8192 bytes -/
  prgRam : Memory 8
  deriving DecidableEq, Repr

/-- The mapper, "a closed tagged variant" (48_cartridge_mappers.md R272), with its mutable state. -/
inductive Mapper where
  /-- mapper 0, no mutable state (10_state.md R38) -/
  | nrom
  /-- mapper 1 (R39) -/
  | mmc1 (r : Mmc1)
  /-- mapper 2 with `m2_bank` (R40) -/
  | unrom (bank : Nat)
  /-- mapper 3 with `m3_bank` (R41) -/
  | cnrom (bank : Nat)
  deriving DecidableEq, Repr

/-- The cartridge (10_state.md R36, R37). -/
structure Cartridge where
  /-- `prg_banks`, in 16 KB units -/
  prgBanks : Nat
  /-- the effective `chr_banks`, in 8 KB units -/
  chrBanks : Nat
  /-- `chr_is_ram` -/
  chrIsRam : Bool
  /-- `header_mirroring` -/
  headerMirroring : HeaderMirroring
  /-- `battery`, stored and inert -/
  battery : Bool
  /-- `mapper` and its state -/
  mapper : Mapper
  /-- `prg`, `prg_banks * 16384` bytes -/
  prg : Memory 8
  /-- `chr`, `chr_banks * 8192` bytes -/
  chr : Memory 8
  deriving DecidableEq, Repr

/-- The PPU (10_state.md R20 to R34). -/
structure Ppu where
  /-- `ppu_ctrl` (R20) -/
  ctrl : Byte
  /-- `ppu_mask` (R21) -/
  mask : Byte
  /-- `vblank`, bit 7 of PPUSTATUS (R22) -/
  vblank : Bool
  /-- `sprite0_hit`, bit 6 of PPUSTATUS (R22) -/
  sprite0Hit : Bool
  /-- `oam_addr` (R23) -/
  oamAddr : Byte
  /-- `w`, the write toggle (R24) -/
  w : Bool
  /-- `vram_addr` (R25) -/
  vramAddr : PpuAddr
  /-- `data_buffer` (R26) -/
  dataBuffer : Byte
  /-- `scroll_x` (R27) -/
  scrollX : Byte
  /-- `scroll_y` (R27) -/
  scrollY : Byte
  /-- `pixel_x`, 0 to 340 (R28) -/
  pixelX : Nat
  /-- `pixel_y`, 0 to 261 (R28) -/
  pixelY : Nat
  /-- `nmi_fired` (R29) -/
  nmiFired : Bool
  /-- `frame_complete` (R30) -/
  frameComplete : Bool
  /-- `frame_count` (R30) -/
  frameCount : Nat
  /-- `framebuffer` (R31): the entry of row `y`, column `x` is cell `256 * y + x` -/
  framebuffer : Memory 6
  /-- `vram`, 16384 bytes (R33) -/
  vram : Memory 8
  /-- `oam`, 256 bytes (R34) -/
  oam : Memory 8
  deriving DecidableEq, Repr

/-- A button of a controller (20_memory.md R60). -/
inductive Button where
  | a | b | select | start | up | down | left | right
  deriving DecidableEq, Repr

/-- One controller port (10_state.md R35). -/
structure Pad where
  /-- `buttons[k]`, one bit per button in the order `buttonBitOrder`, 1 if pressed (20_memory.md R60) -/
  buttons : Byte
  /-- `shift[k]` -/
  shift : Byte
  deriving DecidableEq, Repr

/-- The controller ports (10_state.md R35). -/
structure Controllers where
  /-- port 0, read at 0x4016 -/
  pad0 : Pad
  /-- port 1, read at 0x4017 -/
  pad1 : Pad
  /-- the shared `strobe` bit -/
  strobe : Bool
  deriving DecidableEq, Repr

/-- The machine: CPU, RAM, PPU, controllers, cartridge, and the parameters it was built with. -/
structure State where
  /-- `A` (10_state.md R10) -/
  a : Byte
  /-- `X` (R11) -/
  x : Byte
  /-- `Y` (R11) -/
  y : Byte
  /-- `SP` (R12) -/
  sp : Byte
  /-- `PC` (R13) -/
  pc : Addr
  /-- `P` (R14) -/
  p : Byte
  /-- `nmi_pending` (R18) -/
  nmiPending : Bool
  /-- `stall_cycles` (R18) -/
  stallCycles : Nat
  /-- `cpu_cycles` (R18) -/
  cpuCycles : Nat
  /-- `fault` (R18) -/
  fault : Option Fault
  /-- `ram`, 2048 bytes (R32) -/
  ram : Memory 8
  /-- the PPU (R20 to R34) -/
  ppu : Ppu
  /-- the controller ports (R35) -/
  pads : Controllers
  /-- the cartridge (R36 to R42) -/
  cart : Cartridge
  /-- the parameters of 00_scope.md R4, changed by no step (log entry 2) -/
  params : Params
  deriving DecidableEq, Repr

/-- The reset state of the PPU with given initial contents of its memories (70_reset_and_hazards.md R322). -/
def Ppu.reset (vram oam : Memory 8) : Ppu where
  ctrl := 0x00
  mask := 0x00
  vblank := false
  sprite0Hit := false
  oamAddr := 0x00
  w := false
  vramAddr := 0x0000
  dataBuffer := 0x00
  scrollX := 0x00
  scrollY := 0x00
  pixelX := 0
  pixelY := 0
  nmiFired := false
  frameComplete := false
  frameCount := 0
  framebuffer := []
  vram := vram
  oam := oam

/-- The reset state of the controller ports (R322). -/
def Controllers.reset : Controllers where
  pad0 := ⟨0x00, 0x00⟩
  pad1 := ⟨0x00, 0x00⟩
  strobe := false

/-- The blank cartridge: the smallest NROM image `LoadImage` accepts with CHR-ROM, every byte 0x00, horizontal
mirroring. The spec makes the cartridge image an argument of the model (00_scope.md R4); `State.reset` needs one.
DESIGN CHOICE, unsafe, log entry 1. -/
def Cartridge.blank : Cartridge where
  prgBanks := 1
  chrBanks := 1
  chrIsRam := false
  headerMirroring := .h
  battery := false
  mapper := .nrom
  prg := []
  chr := []

/-- The machine right after reset (70_reset_and_hazards.md R320, R322) with the default parameters and the blank
cartridge, whose reset vector bytes are 0x00. Reset with any parameters and any cartridge is `machineReset`. -/
def State.reset : State where
  a := 0x00
  x := 0x00
  y := 0x00
  sp := 0xFD
  pc := 0x0000
  p := 0x24
  nmiPending := false
  stallCycles := 7
  cpuCycles := 0
  fault := none
  ram := []
  ppu := Ppu.reset [] []
  pads := Controllers.reset
  cart := Cartridge.blank
  params := {}

end Sys2Proof.Machine
end

