-- ==== Sys2Proof/Machine/Flags.lean ====
section
/-! DEFINITION. The status register `P` and every flag computation the instruction rules use
(spec/10_state.md R14, R15; 40_addressing_modes.md R127; 42_arithmetic_logic.md; 43_shift_rotate.md). -/

namespace Sys2Proof.Machine

/-- The bits of `P` (R14). -/
inductive Flag where
  | carry | zero | interruptDisable | decimal | breakBit | unused | overflow | negative
  deriving DecidableEq, Repr

/-- The bit number of a flag (R14). -/
def Flag.bit : Flag → Nat
  | .carry => 0
  | .zero => 1
  | .interruptDisable => 2
  | .decimal => 3
  | .breakBit => 4
  | .unused => 5
  | .overflow => 6
  | .negative => 7

/-- The mask of a flag (R14). -/
def Flag.mask : Flag → Byte
  | .carry => 0x01
  | .zero => 0x02
  | .interruptDisable => 0x04
  | .decimal => 0x08
  | .breakBit => 0x10
  | .unused => 0x20
  | .overflow => 0x40
  | .negative => 0x80

/-- A flag of a status byte. -/
def getFlag (f : Flag) (p : Byte) : Bool := p.getLsbD f.bit

/-- A status byte with one flag replaced. -/
def putFlag (f : Flag) (b : Bool) (p : Byte) : Byte := if b then p ||| f.mask else p &&& ~~~f.mask

/-- A flag of the live register. -/
def State.flag (f : Flag) (s : State) : Bool := getFlag f s.p

/-- `P.f <- b`. -/
def State.setFlag (f : Flag) (b : Bool) (s : State) : State := { s with p := putFlag f b s.p }

/-- `SetZN(v)` (40_addressing_modes.md R127): `P.Z <- (v == 0)`, `P.N <- v[7]`. -/
def State.setZN (v : Byte) (s : State) : State :=
  (s.setFlag .zero (decide (v = 0x00))).setFlag .negative (v.getLsbD 7)

/-- The byte `PHP` and `BRK` push: Break set, Unused set (10_state.md R15). -/
def pushedByBrk (p : Byte) : Byte := p ||| 0x30

/-- The byte NMI entry pushes: Break cleared, Unused set (10_state.md R15). -/
def pushedByNmi (p : Byte) : Byte := (p &&& 0xEF) ||| 0x20

/-- What `PLP` and `RTI` store in `P` for a pulled byte: bit 4 clear, bit 5 set (10_state.md R15). -/
def statusOfPulled (v : Byte) : Byte := (v &&& 0xCF) ||| 0x20

/-- The 9-bit sum `A + M + C` of `ADC`, 0 to 511 (42_arithmetic_logic.md R150). -/
def sumWithCarry (a m : Byte) (c : Bool) : Nat := a.toNat + m.toNat + c.toNat

/-- `sum & 0xFF` -/
def sumByte (a m : Byte) (c : Bool) : Byte := BitVec.ofNat 8 (sumWithCarry a m c)

/-- `sum[8]` -/
def sumCarry (a m : Byte) (c : Bool) : Bool := (sumWithCarry a m c).testBit 8

/-- `((~(A ^ M)) & (A ^ sum) & 0x80) != 0` -/
def sumOverflow (a m : Byte) (c : Bool) : Bool :=
  decide ((~~~(a ^^^ m)) &&& (a ^^^ sumByte a m c) &&& 0x80 ≠ 0)

/-- The flags and the result of an addition of `m` to `A` with carry (R150). -/
def State.addWithCarry (m : Byte) (s : State) : State :=
  let c := s.flag .carry
  let r := sumByte s.a m c
  let t := (s.setFlag .carry (sumCarry s.a m c)).setFlag .overflow (sumOverflow s.a m c)
  ({ t with a := r }).setZN r

/-- The flags of a comparison of a register with `m` (R155): `C <- reg >= m`, `Z <- reg == m`, `N <- (reg - m)[7]`. -/
def State.compareFlags (reg m : Byte) (s : State) : State :=
  ((s.setFlag .carry (decide (m.toNat ≤ reg.toNat))).setFlag .zero (decide (reg = m))).setFlag .negative
    ((reg - m).getLsbD 7)

/-- The flags of `BIT` (R158): `Z <- (A & M) == 0`, `N <- M[7]`, `V <- M[6]`. -/
def State.bitFlags (m : Byte) (s : State) : State :=
  ((s.setFlag .zero (decide (s.a &&& m = 0))).setFlag .negative (m.getLsbD 7)).setFlag .overflow (m.getLsbD 6)

/-- `ASL` of a byte (43_shift_rotate.md R170): the result, and the bit that goes to Carry. -/
def shiftLeft (v : Byte) : Byte × Bool := (v <<< 1, v.getLsbD 7)

/-- `LSR` of a byte (R171). -/
def shiftRight (v : Byte) : Byte × Bool := (v >>> 1, v.getLsbD 0)

/-- `ROL` of a byte with the old carry (R172): the old carry enters bit 0. -/
def rotateLeft (c : Bool) (v : Byte) : Byte × Bool := (v <<< 1 ||| (if c then 0x01 else 0x00), v.getLsbD 7)

/-- `ROR` of a byte with the old carry (R173): the old carry enters bit 7. -/
def rotateRight (c : Bool) (v : Byte) : Byte × Bool := (v >>> 1 ||| (if c then 0x80 else 0x00), v.getLsbD 0)

end Sys2Proof.Machine
end

