-- ==== Sys2Proof/Machine/Cartridge.lean ====
section
/-! DEFINITION. The cartridge (spec/48_cartridge_mappers.md): loading an image, and the mapper operations `CPURead`,
`CPUWrite`, `PPURead`, `PPUWrite`, `Mirroring` of mappers 0 to 3. "Claimed" is `some`, "unclaimed" is `none` (R272). -/

namespace Sys2Proof.Machine

/-- A PRG bank: 16 KB (R270). -/
def prgBankSize : Nat := 16384

/-- A CHR bank: 8 KB (R270). -/
def chrBankSize : Nat := 8192

/-- The mode of a header bit. -/
def HeaderMirroring.mode : HeaderMirroring → Mirroring
  | .h => .horizontal
  | .v => .vertical

/-- `length(prg)` (10_state.md R37). -/
def Cartridge.prgSize (c : Cartridge) : Nat := prgBankSize * c.prgBanks

/-- `length(chr)` (10_state.md R37). -/
def Cartridge.chrSize (c : Cartridge) : Nat := chrBankSize * c.chrBanks

/-- The mapper number (10_state.md R36). -/
def Mapper.number : Mapper → Nat
  | .nrom => 0
  | .mmc1 _ => 1
  | .unrom _ => 2
  | .cnrom _ => 3

/-! ### Mapper 1 -/

/-- The PRG mode, `m1_control[3:2]` (R281). -/
def Mmc1.prgMode (r : Mmc1) : Nat := r.control.toNat / 4 % 4

/-- The CHR mode, `m1_control[4]` (R281): true for two independent 4 KB banks. -/
def Mmc1.chrMode (r : Mmc1) : Bool := r.control.getLsbD 4

/-- `b = m1_prg & 0x0F` (R282). -/
def Mmc1.prgBank (r : Mmc1) : Nat := r.prg.toNat % 16

/-- `prg_off[0]` for `prg_banks` banks (R282). -/
def Mmc1.prgOff0 (r : Mmc1) (prgBanks : Nat) : Nat :=
  let size := prgBankSize * prgBanks
  match r.prgMode with
  | 2 => 0
  | 3 => r.prgBank * 16384 % size
  | _ => r.prgBank / 2 * 2 * 16384 % size

/-- `prg_off[1]` for `prg_banks` banks (R282). -/
def Mmc1.prgOff1 (r : Mmc1) (prgBanks : Nat) : Nat :=
  let size := prgBankSize * prgBanks
  match r.prgMode with
  | 2 => r.prgBank * 16384 % size
  | 3 => 16384 * (prgBanks - 1)
  | _ => (r.prgBank / 2 * 2 + 1) * 16384 % size

/-- `chr_off[0]` for a CHR memory of `size` bytes (R282). -/
def Mmc1.chrOff0 (r : Mmc1) (size : Nat) : Nat :=
  if r.chrMode then r.chr0.toNat * 4096 % size else r.chr0.toNat / 2 * 2 * 4096 % size

/-- `chr_off[1]` for a CHR memory of `size` bytes (R282). -/
def Mmc1.chrOff1 (r : Mmc1) (size : Nat) : Nat :=
  if r.chrMode then r.chr1.toNat * 4096 % size else (r.chr0.toNat / 2 * 2 + 1) * 4096 % size

/-- `MirrorOf` of the low two control bits (R281). -/
def mirrorOf (n : Nat) : Mirroring :=
  match n % 4 with
  | 0 => .oneLo
  | 1 => .oneHi
  | 2 => .vertical
  | _ => .horizontal

/-- Latch a full shift register into the register that the fifth write's address selects (R280). -/
def Mmc1.latch (r : Mmc1) (a : Addr) (value : BitVec 5) : Mmc1 :=
  let r0 := { r with shift := 0, count := 0 }
  match a.toNat / 2 ^ 13 % 4 with
  | 0 => { r0 with control := value, mirroring := mirrorOf (value.toNat % 4) }
  | 1 => { r0 with chr0 := value }
  | 2 => { r0 with chr1 := value }
  | _ => { r0 with prg := value }

/-- The serial register write of mapper 1 at an address of 0x8000 or above (R280). -/
def Mmc1.serialWrite (r : Mmc1) (a : Addr) (v : Byte) : Mmc1 :=
  if v.getLsbD 7 then { r with shift := 0, count := 0, control := r.control ||| 0x0C }
  else
    let shift : BitVec 5 := r.shift >>> 1 ||| (if v.getLsbD 0 then 0x10 else 0x00)
    if r.count + 1 = 5 then r.latch a shift else { r with shift := shift, count := r.count + 1 }

/-- The reset state of mapper 1 (10_state.md R39). -/
def Mmc1.reset (mirroring : Mirroring) (prgRam : Memory 8) : Mmc1 where
  shift := 0
  count := 0
  control := 0x0C
  chr0 := 0
  chr1 := 0
  prg := 0
  mirroring := mirroring
  prgRam := prgRam

/-! ### The four operations -/

/-- The index into `prg` that an address of 0x8000 or above reads (R275, R283, R288, R291). -/
def Cartridge.prgIndex (c : Cartridge) (a : Addr) : Nat :=
  match c.mapper with
  | .nrom | .cnrom _ => (a.toNat - 0x8000) % (16384 * c.prgBanks)
  | .mmc1 r => (if a.toNat ≤ 0xBFFF then r.prgOff0 c.prgBanks else r.prgOff1 c.prgBanks) + a.toNat % 0x4000
  | .unrom bank => (if a.toNat ≤ 0xBFFF then 16384 * bank else 16384 * (c.prgBanks - 1)) + a.toNat % 0x4000

/-- The index into `chr` that a PPU address of 0x1FFF or below reaches, `ChrIndex(a)` (R275, R284, R288, R291). -/
def Cartridge.chrIndex (c : Cartridge) (a : PpuAddr) : Nat :=
  match c.mapper with
  | .nrom | .unrom _ => a.toNat
  | .mmc1 r => (if a.toNat ≤ 0x0FFF then r.chrOff0 c.chrSize else r.chrOff1 c.chrSize) + a.toNat % 0x1000
  | .cnrom bank => 8192 * bank + a.toNat

/-- `Cart.CPURead(a)` (R272): never changes state. -/
def Cartridge.cpuRead (c : Cartridge) (a : Addr) : Option Byte :=
  if 0x8000 ≤ a.toNat then some (Memory.read c.prg (c.prgIndex a))
  else
    match c.mapper with
    | .mmc1 r => if 0x6000 ≤ a.toNat then some (Memory.read r.prgRam (a.toNat - 0x6000)) else none
    | .nrom | .unrom _ | .cnrom _ => none

/-- `Cart.CPUWrite(a, v)` (R272; R275, R283, R288, R291): the cartridge after a claimed write. -/
def Cartridge.cpuWrite (c : Cartridge) (a : Addr) (v : Byte) : Option Cartridge :=
  match c.mapper with
  | .nrom => none
  | .mmc1 r =>
    if 0x8000 ≤ a.toNat then some { c with mapper := .mmc1 (r.serialWrite a v) }
    else if 0x6000 ≤ a.toNat then some { c with mapper := .mmc1 { r with prgRam := Memory.write r.prgRam (a.toNat - 0x6000) v } }
    else none
  | .unrom _ => if 0x8000 ≤ a.toNat then some { c with mapper := .unrom (v.toNat % c.prgBanks) } else none
  | .cnrom _ => if 0x8000 ≤ a.toNat then some { c with mapper := .cnrom (v.toNat % c.chrBanks) } else none

/-- `Cart.PPURead(a)` (R274): claimed exactly when `a <= 0x1FFF`. -/
def Cartridge.ppuRead (c : Cartridge) (a : PpuAddr) : Option Byte :=
  if a.toNat ≤ 0x1FFF then some (Memory.read c.chr (c.chrIndex a)) else none

/-- `Cart.PPUWrite(a, v)` (R273): claimed exactly when `a <= 0x1FFF` and the cartridge has CHR-RAM. -/
def Cartridge.ppuWrite (c : Cartridge) (a : PpuAddr) (v : Byte) : Option Cartridge :=
  if a.toNat ≤ 0x1FFF ∧ c.chrIsRam = true then some { c with chr := Memory.write c.chr (c.chrIndex a) v } else none

/-- `Cart.Mirroring()` (R272): `header_mirroring` on mappers 0, 2 and 3, `m1_mirroring` on mapper 1. -/
def Cartridge.mirroring (c : Cartridge) : Mirroring :=
  match c.mapper with
  | .mmc1 r => r.mirroring
  | .nrom | .unrom _ | .cnrom _ => c.headerMirroring.mode

/-! ### Ranges -/

/-- The bank registers of a mapper are in the ranges of 10_state.md R39, R40, R41. -/
def Cartridge.mapperInRange (c : Cartridge) : Bool :=
  match c.mapper with
  | .nrom => true
  | .mmc1 r => decide (r.count ≤ 4)
  | .unrom bank => decide (bank < c.prgBanks)
  | .cnrom bank => decide (bank < c.chrBanks)

/-- The header fields and the bank registers are in the ranges of 10_state.md R36, R37, R39, R40, R41, as `LoadImage`
makes them and every step keeps them. -/
def Cartridge.inRange (c : Cartridge) : Bool :=
  decide (1 ≤ c.prgBanks) && decide (c.prgBanks ≤ 255) && decide (1 ≤ c.chrBanks) && decide (c.chrBanks ≤ 255) &&
  (!c.chrIsRam || decide (c.chrBanks = 1)) && c.mapperInRange

/-! ### Reset and loading -/

/-- The mapper with its reset state (10_state.md R39, R40, R41). -/
def Cartridge.resetMapper (c : Cartridge) (initPrgRam : Memory 8) : Mapper :=
  match c.mapper with
  | .nrom => .nrom
  | .mmc1 _ => .mmc1 (Mmc1.reset c.headerMirroring.mode initPrgRam)
  | .unrom _ => .unrom 0
  | .cnrom _ => .cnrom 0

/-- What a reset does to a cartridge (10_state.md R42): mapper state, PRG-RAM and CHR-RAM take their reset values, the
header fields and the ROM bytes do not change. -/
def Cartridge.afterReset (c : Cartridge) (p : Params) : Cartridge :=
  { c with mapper := c.resetMapper p.initPrgRam, chr := if c.chrIsRam then p.initChrRam else c.chr }

/-- Why an image is refused (R271, decision D40). -/
inductive LoadError where
  | missingMagic
  | trainerBlock
  | unsupportedMapper (number : Nat)
  | noPrgRom
  | shortImage
  deriving DecidableEq, Repr

/-- The mapper of a number with its reset state, none for an unsupported one (R270). -/
def Mapper.ofNumber (n : Nat) (mirroring : Mirroring) (initPrgRam : Memory 8) : Option Mapper :=
  match n with
  | 0 => some .nrom
  | 1 => some (.mmc1 (Mmc1.reset mirroring initPrgRam))
  | 2 => some (.unrom 0)
  | 3 => some (.cnrom 0)
  | _ => none

/-- `LoadImage(bytes)` (R270, R271): a cartridge from an iNES image, or the reason there is none. -/
def loadImage (p : Params) (bytes : List Byte) : Except LoadError Cartridge :=
  let flags6 := bytes.getD 6 0
  let flags7 := bytes.getD 7 0
  let prgBanks := (bytes.getD 4 0).toNat
  let chrBanks := (bytes.getD 5 0).toNat
  let number := ((flags7 &&& (0xF0 : Byte)) ||| (flags6 >>> 4)).toNat
  let header : HeaderMirroring := if flags6.getLsbD 0 then .v else .h
  if bytes.take 4 ≠ [0x4E, 0x45, 0x53, 0x1A] then .error .missingMagic
  else if flags6.getLsbD 2 then .error .trainerBlock
  else
    match Mapper.ofNumber number header.mode p.initPrgRam with
    | none => .error (.unsupportedMapper number)
    | some mapper =>
      if prgBanks = 0 then .error .noPrgRom
      else if bytes.length < 16 + 16384 * prgBanks + 8192 * chrBanks then .error .shortImage
      else
        let prg := Memory.ofBytes ((bytes.drop 16).take (16384 * prgBanks))
        let rom := Memory.ofBytes ((bytes.drop (16 + 16384 * prgBanks)).take (8192 * chrBanks))
        .ok
          { prgBanks := prgBanks
            chrBanks := if chrBanks = 0 then 1 else chrBanks
            chrIsRam := decide (chrBanks = 0)
            headerMirroring := header
            battery := flags6.getLsbD 1
            mapper := mapper
            prg := prg
            chr := if chrBanks = 0 then p.initChrRam else rom }

end Sys2Proof.Machine
end

