-- ==== Sys2Proof/Machine/Ppu.lean ====
section
/-! DEFINITION. The PPU side: its address space (spec/20_memory.md R65 to R68, R70), its eight registers
(spec/46_ppu_registers_and_timing.md R221 to R231, R233) and `RequestNMI` (spec/60_exceptions.md R304). -/

namespace Sys2Proof.Machine

/-! ### The PPU address space -/

/-- The first address of the nametable that stands for logical nametable `table` (20_memory.md R67). -/
def nametableBase (m : Mirroring) (table : Nat) : Nat :=
  match m with
  | .horizontal => if table < 2 then 0x2000 else 0x2800
  | .vertical => if table % 2 = 0 then 0x2000 else 0x2400
  | .oneLo => 0x2000
  | .oneHi => 0x2400

/-- The palette cell that a palette index 0 to 31 reaches (20_memory.md R68): 0x10, 0x14, 0x18 and 0x1C alias 0x00, 0x04,
0x08 and 0x0C. -/
def paletteIndex (i : Nat) : Nat := if i &&& 0x13 = 0x10 then i &&& 0x0F else i

/-- `Mirror(a)` (20_memory.md R67, R68). -/
def mirrorAddr (m : Mirroring) (a : PpuAddr) : PpuAddr :=
  if a.toNat ≤ 0x1FFF then a
  else if a.toNat ≤ 0x3EFF then
    let o := (a.toNat - 0x2000) % 0x1000
    BitVec.ofNat 14 (nametableBase m (o / 0x400) + o % 0x400)
  else BitVec.ofNat 14 (0x3F00 + paletteIndex (a.toNat % 0x20))

/-- `PpuRead(a)` (20_memory.md R65): no side effect. -/
def ppuRead (s : State) (a : PpuAddr) : Byte :=
  match s.cart.ppuRead a with
  | some v => v
  | none => Memory.read s.ppu.vram (mirrorAddr s.cart.mirroring a).toNat

/-- `PpuWrite(a, v)` (20_memory.md R66). -/
def ppuWrite (a : PpuAddr) (v : Byte) (s : State) : State :=
  match s.cart.ppuWrite a v with
  | some c => { s with cart := c }
  | none => { s with ppu.vram := Memory.write s.ppu.vram (mirrorAddr s.cart.mirroring a).toNat v }

/-! ### Fields of the control registers -/

/-- `ppu_ctrl[7]`, `nmi_enable` (10_state.md R20). -/
def Ppu.nmiEnable (p : Ppu) : Bool := p.ctrl.getLsbD 7

/-- `ppu_mask[3]`, `show_bg` (10_state.md R21). -/
def Ppu.showBg (p : Ppu) : Bool := p.mask.getLsbD 3

/-- `ppu_mask[4]`, `show_spr` (10_state.md R21). -/
def Ppu.showSpr (p : Ppu) : Bool := p.mask.getLsbD 4

/-! ### Requests -/

/-- `RequestNMI()` (60_exceptions.md R304): it sets the latch and does nothing else. -/
def requestNmi (s : State) : State := { s with nmiPending := true }

/-- Request the NMI of a vblank period if none has been requested in it: the common part of a PPUCTRL write (46 R223)
and of vblank entry (46 R237). -/
def requestNmiOnce (s : State) : State :=
  if s.ppu.nmiFired then s else requestNmi { s with ppu.nmiFired := true }

/-! ### The registers -/

/-- The eight registers (20_memory.md R57). -/
inductive PpuReg where
  | ctrl | mask | status | oamAddr | oamData | scroll | addr | data
  deriving DecidableEq, Repr

/-- The register at index `a & 7` (20_memory.md R57). -/
def ppuRegOf (a : Addr) : PpuReg :=
  match a.toNat % 8 with
  | 0 => .ctrl
  | 1 => .mask
  | 2 => .status
  | 3 => .oamAddr
  | 4 => .oamData
  | 5 => .scroll
  | 6 => .addr
  | _ => .data

/-- The PPUSTATUS byte (46 R225; 10_state.md R22): `vblank`, `sprite0_hit` and the constant 0 of `sprite_overflow` in bits 7,
6, 5; bits 4:0 are 0. -/
def Ppu.statusByte (p : Ppu) : Byte := (if p.vblank then 0x80 else 0x00) ||| (if p.sprite0Hit then 0x40 else 0x00)

/-- PPUSTATUS read (46 R225). -/
def readStatus (s : State) : Byte × State :=
  (s.ppu.statusByte, { s with ppu := { s.ppu with vblank := false, w := false } })

/-- OAMDATA read (46 R227): `oam_addr` is unchanged. -/
def readOamData (s : State) : Byte × State := (Memory.read s.ppu.oam s.ppu.oamAddr.toNat, s)

/-- `VramIncrement()` (46 R233). -/
def vramIncrement (s : State) : State :=
  { s with ppu.vramAddr := s.ppu.vramAddr + (if s.ppu.ctrl.getLsbD 2 then 32 else 1) }

/-- PPUDATA read (46 R230). -/
def readData (s : State) : Byte × State :=
  let fresh := ppuRead s s.ppu.vramAddr
  let result := if 0x3F00 ≤ s.ppu.vramAddr.toNat then fresh else s.ppu.dataBuffer
  (result, vramIncrement { s with ppu.dataBuffer := fresh })

/-- `PpuRegRead(r)` (46 R221). -/
def ppuRegRead (r : PpuReg) (s : State) : Byte × State :=
  match r with
  | .ctrl | .mask | .oamAddr | .scroll | .addr => (0x00, s)
  | .status => readStatus s
  | .oamData => readOamData s
  | .data => readData s

/-- PPUCTRL write (46 R223). -/
def writeCtrl (v : Byte) (s : State) : State :=
  let t := { s with ppu.ctrl := v }
  if v.getLsbD 7 && s.ppu.vblank then requestNmiOnce t else t

/-- OAMDATA write, and one byte of an OAM DMA (46 R227, R232). -/
def writeOamData (v : Byte) (s : State) : State :=
  { s with
    ppu := { s.ppu with oam := Memory.write s.ppu.oam s.ppu.oamAddr.toNat v, oamAddr := s.ppu.oamAddr + 1 } }

/-- PPUSCROLL write (46 R228). -/
def writeScroll (v : Byte) (s : State) : State :=
  if s.ppu.w then { s with ppu := { s.ppu with scrollY := v, w := false } }
  else { s with ppu := { s.ppu with scrollX := v, w := true } }

/-- PPUADDR write (46 R229): the first write sets the high 6 bits, the second the low 8. -/
def writeAddr (v : Byte) (s : State) : State :=
  if s.ppu.w then
    { s with ppu := { s.ppu with vramAddr := (s.ppu.vramAddr &&& 0x3F00) ||| v.setWidth 14, w := false } }
  else
    { s with
      ppu := { s.ppu with vramAddr := ((v &&& 0x3F).setWidth 14 <<< 8) ||| (s.ppu.vramAddr &&& 0x00FF), w := true } }

/-- PPUDATA write (46 R231). -/
def writeData (v : Byte) (s : State) : State := vramIncrement (ppuWrite s.ppu.vramAddr v s)

/-- `PpuRegWrite(r, v)` (46 R222). -/
def ppuRegWrite (r : PpuReg) (v : Byte) (s : State) : State :=
  match r with
  | .ctrl => writeCtrl v s
  | .mask => { s with ppu.mask := v }
  | .status => s
  | .oamAddr => { s with ppu.oamAddr := v }
  | .oamData => writeOamData v s
  | .scroll => writeScroll v s
  | .addr => writeAddr v s
  | .data => writeData v s

end Sys2Proof.Machine
end

