-- ==== Sys2Proof/Machine/Render.lean ====
section
/-! DEFINITION. Rendering, one pixel per visible clock (spec/47_ppu_rendering.md), and the timing state machine of the PPU
(spec/46_ppu_registers_and_timing.md R235 to R238). Screen positions and pattern addresses are naturals, as in the
rules; every address formed is below 0x4000 (R263). -/

namespace Sys2Proof.Machine

/-! ### Patterns -/

/-- The 2-bit pixel of a tile row at pattern address `addr`, in column `column` from the left (R254, R257): bit 7 of a row
byte is the leftmost pixel, plane 0 gives bit 0 and plane 1, eight bytes on, gives bit 1. -/
def patternPixel (s : State) (addr column : Nat) : Nat :=
  let plane0 := ppuRead s (BitVec.ofNat 14 addr)
  let plane1 := ppuRead s (BitVec.ofNat 14 (addr + 8))
  2 * (plane1.getLsbD (7 - column)).toNat + (plane0.getLsbD (7 - column)).toNat

/-! ### Background -/

/-- `sx` of R251: the horizontal position in the 512-pixel plane. -/
def scrolledX (s : State) (x : Nat) : Nat := (x + s.ppu.scrollX.toNat + 256 * (s.ppu.ctrl.getLsbD 0).toNat) % 512

/-- `sy` of R251: the vertical position in the 480-pixel plane. -/
def scrolledY (s : State) (y : Nat) : Nat := (y + s.ppu.scrollY.toNat + 240 * (s.ppu.ctrl.getLsbD 1).toNat) % 480

/-- The tile index and the palette number of the background at a plane position (R251, R253). -/
def backgroundTile (s : State) (sx sy : Nat) : Nat × Nat :=
  let nt := sx / 256 + 2 * (sy / 240)
  let col := sx % 256 / 8
  let row := sy % 240 / 8
  let base := 0x2000 + 0x400 * nt
  let tile := ppuRead s (BitVec.ofNat 14 (base + row * 32 + col))
  let attr := ppuRead s (BitVec.ofNat 14 (base + 0x3C0 + row / 4 * 8 + col / 4))
  let shift := 4 * (row / 2 % 2) + 2 * (col / 2 % 2)
  (tile.toNat, attr.toNat / 2 ^ shift % 4)

/-- `BackgroundPixel(x, y)` (R252, R254): the pixel value and the palette number. -/
def backgroundPixel (s : State) (x y : Nat) : Nat × Nat :=
  if s.ppu.showBg then
    let sx := scrolledX s x
    let sy := scrolledY s y
    let t := backgroundTile s sx sy
    let addr := 0x1000 * (s.ppu.ctrl.getLsbD 4).toNat + t.1 * 16 + sy % 240 % 8
    (patternPixel s addr (sx % 8), t.2)
  else (0, 0)

/-! ### Sprites -/

/-- One OAM entry (10_state.md R34; R255). -/
structure Sprite where
  y : Nat
  tile : Nat
  attr : Byte
  x : Nat
  deriving DecidableEq, Repr

/-- Sprite `n` of the OAM (10_state.md R34). -/
def spriteOf (s : State) (n : Nat) : Sprite where
  y := (Memory.read s.ppu.oam (4 * n)).toNat
  tile := (Memory.read s.ppu.oam (4 * n + 1)).toNat
  attr := Memory.read s.ppu.oam (4 * n + 2)
  x := (Memory.read s.ppu.oam (4 * n + 3)).toNat

/-- The palette of a sprite, bits 1:0 of its attributes (R255). -/
def Sprite.palette (q : Sprite) : Nat := q.attr.toNat % 4

/-- The sprite has priority over the background: attribute bit 5 clear (R255, R258). -/
def Sprite.front (q : Sprite) : Bool := !q.attr.getLsbD 5

/-- The sprite height, 8 or 16 (R256). -/
def spriteHeight (s : State) : Nat := if s.ppu.ctrl.getLsbD 5 then 16 else 8

/-- The first row of a sprite (R256). -/
def spriteTop (s : State) (q : Sprite) : Nat := q.y + s.params.spriteYOffset.val

/-- A pixel lies in the box of a sprite (R256): the sums are naturals, nothing wraps. -/
def inSpriteBox (s : State) (q : Sprite) (x y : Nat) : Bool :=
  decide (q.x ≤ x) && decide (x ≤ q.x + 7) && decide (spriteTop s q ≤ y) &&
  decide (y ≤ spriteTop s q + spriteHeight s - 1)

/-- The pattern address of a sprite's row `dy`, after flipping (R257). -/
def spritePatternAddr (s : State) (tile dy : Nat) : Nat :=
  if s.ppu.ctrl.getLsbD 5 then 0x1000 * (tile % 2) + (tile / 2 * 2 + dy / 8) * 16 + dy % 8
  else 0x1000 * (s.ppu.ctrl.getLsbD 3).toNat + tile * 16 + dy

/-- The pixel value of a sprite at a position in its box (R257). -/
def spritePixelValue (s : State) (q : Sprite) (x y : Nat) : Nat :=
  let dx := if q.attr.getLsbD 6 then 7 - (x - q.x) else x - q.x
  let dy := if q.attr.getLsbD 7 then spriteHeight s - 1 - (y - spriteTop s q) else y - spriteTop s q
  patternPixel s (spritePatternAddr s q.tile dy) dx

/-- What `SpritePixel` yields for the winning sprite (R258). -/
structure SpriteHit where
  pix : Nat
  palette : Nat
  front : Bool
  index : Nat
  deriving DecidableEq, Repr

/-- Sprite `n` at a position, if it has a pixel there that is not transparent (R258). -/
def spriteAt (s : State) (x y n : Nat) : Option SpriteHit :=
  let q := spriteOf s n
  if inSpriteBox s q x y then
    let pix := spritePixelValue s q x y
    if pix = 0 then none else some ⟨pix, q.palette, q.front, n⟩
  else none

/-- The first of the `count` sprites from `n` on that has an opaque pixel at a position (R258). -/
def firstSprite (s : State) (x y : Nat) : Nat → Nat → Option SpriteHit
  | 0, _ => none
  | count + 1, n =>
    match spriteAt s x y n with
    | some hit => some hit
    | none => firstSprite s x y count (n + 1)

/-- `SpritePixel(x, y)` (R258): "the first (lowest-index) sprite with a non-transparent pixel wins". -/
def spritePixel (s : State) (x y : Nat) : Option SpriteHit :=
  if s.ppu.showSpr then firstSprite s x y 64 0 else none

/-! ### Output -/

/-- The condition of the sprite-zero hit (R259). -/
def spriteZeroHit (s : State) (x bgPix : Nat) (sprite : Option SpriteHit) : Bool :=
  match sprite with
  | none => false
  | some hit =>
    decide (hit.pix ≠ 0) && decide (hit.index = 0) && decide (bgPix ≠ 0) && s.ppu.showBg && s.ppu.showSpr &&
    decide (x ≠ 255)

/-- The palette address of the colour shown, `a` of `FinalColour` (R260). -/
def colourAddr (bg : Nat × Nat) (sprite : Option SpriteHit) : Nat :=
  let background := if bg.1 ≠ 0 then 0x3F00 + 4 * bg.2 + bg.1 else 0x3F00
  match sprite with
  | none => background
  | some hit =>
    if hit.pix ≠ 0 ∧ (bg.1 = 0 ∨ hit.front = true) then 0x3F10 + 4 * hit.palette + hit.pix else background

/-- `FinalColour` (R260): the palette cell, reduced to 6 bits. -/
def finalColour (s : State) (bg : Nat × Nat) (sprite : Option SpriteHit) : Colour :=
  (ppuRead s (BitVec.ofNat 14 (colourAddr bg sprite))).setWidth 6

/-- `RenderPixel(x, y)` (R250): one frame buffer entry, and maybe `sprite0_hit`. -/
def renderPixel (x y : Nat) (s : State) : State :=
  let bg := backgroundPixel s x y
  let sprite := spritePixel s x y
  { s with
    ppu :=
      { s.ppu with
        sprite0Hit := s.ppu.sprite0Hit || spriteZeroHit s x bg.1 sprite
        framebuffer := Memory.write s.ppu.framebuffer (256 * y + x) (finalColour s bg sprite) } }

/-! ### The timing state machine -/

/-- `VblankEnter()` (46 R237). -/
def vblankEnter (s : State) : State :=
  let t := { s with ppu.vblank := true }
  if s.ppu.nmiEnable then requestNmiOnce t else t

/-- `VblankLeave()` (46 R237). -/
def vblankLeave (s : State) : State :=
  { s with ppu := { s.ppu with vblank := false, sprite0Hit := false, nmiFired := false } }

/-- The events of the current position (46 R235, R236; decision D13: before the counters advance). -/
def positionEvents (s : State) : State :=
  let x := s.ppu.pixelX
  let y := s.ppu.pixelY
  if y = 241 ∧ x = 1 then vblankEnter s
  else if y = 261 ∧ x = 1 then vblankLeave s
  else if y ≤ 239 ∧ x ≤ 255 + Config.renderXOffset ∧ Config.renderXOffset ≤ x then
    renderPixel (x - Config.renderXOffset) y s
  else s

/-- The advance of the counters, with the frame-complete event (46 R235, R238). -/
def advancePosition (s : State) : State :=
  if s.ppu.pixelX + 1 = 341 then
    if s.ppu.pixelY + 1 = 262 then
      { s with
        ppu :=
          { s.ppu with pixelX := 0, pixelY := 0, frameComplete := true, frameCount := s.ppu.frameCount + 1 } }
    else { s with ppu := { s.ppu with pixelX := 0, pixelY := s.ppu.pixelY + 1 } }
  else { s with ppu := { s.ppu with pixelX := s.ppu.pixelX + 1 } }

/-- `PpuTick()`, one PPU clock (46 R235). -/
def ppuTick (s : State) : State := advancePosition (positionEvents s)

/-- `n` PPU clocks. -/
def ppuTicks : Nat → State → State
  | 0, s => s
  | n + 1, s => ppuTicks n (ppuTick s)

end Sys2Proof.Machine
end

