-- ==== Sys2Proof/Machine/Ops.lean ====
section
/-! DEFINITION. The operations every CPU action is made of: the Bus (spec/20_memory.md R54 to R63, R75), the controller
ports (R60, R61), OAM DMA (spec/46_ppu_registers_and_timing.md R232), the stack (spec/40_addressing_modes.md R128), taking
an interrupt and returning from one (spec/45_stack_flags_system.md R212, R213; spec/60_exceptions.md R305), cycle
accounting, and the PPU's catching up (spec/70_reset_and_hazards.md R326). -/

namespace Sys2Proof.Machine

/-! ### Controllers -/

/-- A controller port. -/
inductive Port where
  | port0 | port1
  deriving DecidableEq, Repr

/-- `BUTTON_BIT_ORDER`, FIXED by decision D24 (00_scope.md R4; 20_memory.md R60): the order in which a port shifts the
buttons out, and the button of each bit of `buttons[k]`, bit 0 first. -/
def buttonBitOrder : List Button := [.a, .b, .select, .start, .up, .down, .left, .right]

/-- The bit of a button in `buttons[k]` and in `button_mask`: its place in `BUTTON_BIT_ORDER` (20_memory.md R60). -/
def Button.bit (button : Button) : Nat := buttonBitOrder.idxOf button

/-- The mask of one button (20_memory.md R60). -/
def Button.mask (button : Button) : Byte := BitVec.ofNat 8 (2 ^ button.bit)

/-- The host holds a button of the port pressed (20_memory.md R60). -/
def Pad.holds (q : Pad) (button : Button) : Bool := q.buttons.getLsbD button.bit

/-- The bus address that a port is read at (20_memory.md R60). -/
def Port.address : Port → Addr
  | .port0 => 0x4016
  | .port1 => 0x4017

/-- The state of a port (10_state.md R35). -/
def Controllers.pad (c : Controllers) : Port → Pad
  | .port0 => c.pad0
  | .port1 => c.pad1

/-- Reading one port under a strobe (20_memory.md R60): the bit returned and the port after the read. -/
def Pad.shiftOut (strobe : Bool) (q : Pad) : Byte × Pad :=
  if strobe then (q.buttons &&& 0x01, { q with shift := q.buttons })
  else (q.shift &&& 0x01, { q with shift := q.shift >>> 1 ||| 0x80 })

/-- `ControllerRead(k)` (20_memory.md R60). -/
def controllerRead (k : Port) (s : State) : Byte × State :=
  match k with
  | .port0 =>
    let r := s.pads.pad0.shiftOut s.pads.strobe
    (r.1, { s with pads.pad0 := r.2 })
  | .port1 =>
    let r := s.pads.pad1.shiftOut s.pads.strobe
    (r.1, { s with pads.pad1 := r.2 })

/-- Both ports load their shift registers from the buttons. -/
def Controllers.load (c : Controllers) : Controllers :=
  { c with pad0.shift := c.pad0.buttons, pad1.shift := c.pad1.buttons }

/-- `ControllerWrite(v)` (20_memory.md R61): only bit 0 of `v` matters. -/
def controllerWrite (v : Byte) (s : State) : State :=
  if v.getLsbD 0 then { s with pads := { s.pads.load with strobe := true } }
  else { s with pads := { (if s.pads.strobe then s.pads.load else s.pads) with strobe := false } }

/-! ### The Bus -/

/-- `BusRead(a)` (20_memory.md R54): the byte, and the state with the read's side effects (R64). It never fails. -/
def busRead (a : Addr) (s : State) : Byte × State :=
  match s.cart.cpuRead a with
  | some v => (v, s)
  | none =>
    if a.toNat ≤ 0x1FFF then (Memory.read s.ram (a.toNat % 0x800), s)
    else if a.toNat ≤ 0x3FFF then ppuRegRead (ppuRegOf a) s
    else if a.toNat ≤ 0x4013 ∨ a.toNat = 0x4015 then (0x00, s)
    else if a.toNat = 0x4014 then (0x00, s)
    else if a.toNat = 0x4016 then controllerRead .port0 s
    else if a.toNat = 0x4017 then controllerRead .port1 s
    else if a.toNat ≤ 0x401F then (0x00, s)
    else (0x00, s)

/-- The bytes `i` to `255` of an OAM DMA, where `count = 256 - i` (46 R232): each is a `BusRead` with its side effects
(decision D33) and an OAMDATA write. -/
def oamCopy (page : Byte) : Nat → State → State
  | 0, s => s
  | count + 1, s =>
    let r := busRead (word16 page (BitVec.ofNat 8 (255 - count))) s
    oamCopy page count (writeOamData r.1 r.2)

/-- `OamDma(v)` (46 R232): 256 bytes at once, then 513 more stall cycles. -/
def oamDma (v : Byte) (s : State) : State :=
  let t := oamCopy v 256 s
  { t with stallCycles := t.stallCycles + Config.dmaStallCycles }

/-- `BusWrite(a, v)` (20_memory.md R55). It never fails. -/
def busWrite (a : Addr) (v : Byte) (s : State) : State :=
  match s.cart.cpuWrite a v with
  | some c => { s with cart := c }
  | none =>
    if a.toNat ≤ 0x1FFF then { s with ram := Memory.write s.ram (a.toNat % 0x800) v }
    else if a.toNat ≤ 0x3FFF then ppuRegWrite (ppuRegOf a) v s
    else if a.toNat ≤ 0x4013 ∨ a.toNat = 0x4015 then s
    else if a.toNat = 0x4014 then oamDma v s
    else if a.toNat = 0x4016 then controllerWrite v s
    else if a.toNat = 0x4017 then s
    else if a.toNat ≤ 0x401F then s
    else s

/-- The two bytes at `lo` and `hi`, read in that order, as a 16-bit value. -/
def readPair (lo hi : Addr) (s : State) : Addr × State :=
  let l := busRead lo s
  let h := busRead hi l.2
  (word16 h.1 l.1, h.2)

/-- `Read16(a)` (20_memory.md R75): the low byte is read first. -/
def read16 (a : Addr) (s : State) : Addr × State := readPair a (a + 1) s

/-! ### The stack -/

/-- `Push(v)` (40 R128). -/
def push (v : Byte) (s : State) : State :=
  let t := busWrite (stackPage s.sp) v s
  { t with sp := s.sp - 1 }

/-- `Pull()` (40 R128). -/
def pull (s : State) : Byte × State := busRead (stackPage (s.sp + 1)) { s with sp := s.sp + 1 }

/-- Push a 16-bit value, high byte first (44 R190, 45 R212, 60 R305). -/
def push16 (v : Addr) (s : State) : State := push (loByte v) (push (hiByte v) s)

/-- Pull a 16-bit value, low byte first (44 R191, 45 R213). -/
def pull16 (s : State) : Addr × State :=
  let l := pull s
  let h := pull l.2
  (word16 h.1 l.1, h.2)

/-! ### Cycle accounting -/

/-- The CPU action consumes `n` cycles (R326: `cpu_cycles <- cpu_cycles + cycles`). -/
def charge (n : Nat) (s : State) : State := { s with cpuCycles := s.cpuCycles + n }

/-! ### Interrupts -/

/-- Interrupt entry, shared by `BRK` (45 R212) and the NMI (60 R305; 60 R307): push `PC` high, then low, then the status
byte given; set InterruptDisable; load `PC` from the vector. -/
def takeInterrupt (status : Byte) (vector : Addr) (s : State) : State :=
  let t := (push status (push16 s.pc s)).setFlag .interruptDisable true
  let r := read16 vector t
  { r.2 with pc := r.1 }

/-- Return from an interrupt (45 R213): pull the status, then `PC` low, then `PC` high, with no increment. -/
def returnFromInterrupt (s : State) : State :=
  let v := pull s
  let r := pull16 { v.2 with p := statusOfPulled v.1 }
  { r.2 with pc := r.1 }

/-- `NmiEntry()` (60 R305), the CPU action of an instruction boundary with an NMI pending. -/
def nmiEntry (s : State) : State :=
  charge s.params.nmiCycles (takeInterrupt (pushedByNmi s.p) 0xFFFA { s with nmiPending := false })

/-- A stall step (R326): every outstanding stall cycle passes. -/
def serveStall (s : State) : State := charge s.stallCycles { s with stallCycles := 0 }

/-- The PPU's part of a machine step (R326): three clocks for each cycle the CPU action from `before` to `after`
consumed. -/
def catchUp (before after : State) : State :=
  ppuTicks (Config.ppuClocksPerCpuCycle * (after.cpuCycles - before.cpuCycles)) after

end Sys2Proof.Machine
end

