-- ==== Sys2Proof/Syntax.lean ====
section
/-! DEFINITION. The instructions (spec/30_encoding.md R92, R93, R95). `Instr` has one constructor for each of the 151
defined opcodes of the opcode table, named after its mnemonic and format, and one, `ill`, for the 105 undefined
opcode bytes, which carries the byte. `b1` and `b2` are the operand bytes of R91. -/

namespace Sys2Proof

/-- The mnemonics of the opcode table: the 56 of R95, and `ILL` (R94). -/
inductive Mnemonic where
  | lda | ldx | ldy | sta | stx | sty | tax | tay
  | txa | tya | tsx | txs | adc | sbc | and | ora
  | eor | cmp | cpx | cpy | bit | inc | dec | inx
  | iny | dex | dey | asl | lsr | rol | ror | bcc
  | bcs | beq | bne | bmi | bpl | bvc | bvs | jmp
  | jsr | rts | pha | pla | php | plp | clc | sec
  | cli | sei | cld | sed | clv | nop | brk | rti
  | ill
  deriving DecidableEq, Repr

/-- The thirteen formats of R92, each with the operand bytes it carries. -/
inductive Operand where
  /-- IMP, implied. -/
  | imp
  /-- ACC, the register `A`. -/
  | acc
  /-- IMM, the byte `b1` itself. -/
  | imm (b1 : Byte)
  /-- ZP0, zero page. -/
  | zp0 (b1 : Byte)
  /-- ZPX, zero page indexed by `X`. -/
  | zpx (b1 : Byte)
  /-- ZPY, zero page indexed by `Y`. -/
  | zpy (b1 : Byte)
  /-- ABS, absolute. -/
  | abs (b1 b2 : Byte)
  /-- ABX, absolute indexed by `X`. -/
  | abx (b1 b2 : Byte)
  /-- ABY, absolute indexed by `Y`. -/
  | aby (b1 b2 : Byte)
  /-- IND, indirect. -/
  | ind (b1 b2 : Byte)
  /-- IZX, indexed indirect. -/
  | izx (b1 : Byte)
  /-- IZY, indirect indexed. -/
  | izy (b1 : Byte)
  /-- REL, relative. -/
  | rel (b1 : Byte)
  deriving DecidableEq, Repr

/-- The instructions: one constructor per defined opcode of R93, and `ill` for the undefined ones (R94). -/
inductive Instr where
  | ldaImm (b1 : Byte)
  | ldaZp0 (b1 : Byte)
  | ldaZpx (b1 : Byte)
  | ldaAbs (b1 b2 : Byte)
  | ldaAbx (b1 b2 : Byte)
  | ldaAby (b1 b2 : Byte)
  | ldaIzx (b1 : Byte)
  | ldaIzy (b1 : Byte)
  | ldxImm (b1 : Byte)
  | ldxZp0 (b1 : Byte)
  | ldxZpy (b1 : Byte)
  | ldxAbs (b1 b2 : Byte)
  | ldxAby (b1 b2 : Byte)
  | ldyImm (b1 : Byte)
  | ldyZp0 (b1 : Byte)
  | ldyZpx (b1 : Byte)
  | ldyAbs (b1 b2 : Byte)
  | ldyAbx (b1 b2 : Byte)
  | staZp0 (b1 : Byte)
  | staZpx (b1 : Byte)
  | staAbs (b1 b2 : Byte)
  | staAbx (b1 b2 : Byte)
  | staAby (b1 b2 : Byte)
  | staIzx (b1 : Byte)
  | staIzy (b1 : Byte)
  | stxZp0 (b1 : Byte)
  | stxZpy (b1 : Byte)
  | stxAbs (b1 b2 : Byte)
  | styZp0 (b1 : Byte)
  | styZpx (b1 : Byte)
  | styAbs (b1 b2 : Byte)
  | tax
  | tay
  | txa
  | tya
  | tsx
  | txs
  | adcImm (b1 : Byte)
  | adcZp0 (b1 : Byte)
  | adcZpx (b1 : Byte)
  | adcAbs (b1 b2 : Byte)
  | adcAbx (b1 b2 : Byte)
  | adcAby (b1 b2 : Byte)
  | adcIzx (b1 : Byte)
  | adcIzy (b1 : Byte)
  | sbcImm (b1 : Byte)
  | sbcZp0 (b1 : Byte)
  | sbcZpx (b1 : Byte)
  | sbcAbs (b1 b2 : Byte)
  | sbcAbx (b1 b2 : Byte)
  | sbcAby (b1 b2 : Byte)
  | sbcIzx (b1 : Byte)
  | sbcIzy (b1 : Byte)
  | andImm (b1 : Byte)
  | andZp0 (b1 : Byte)
  | andZpx (b1 : Byte)
  | andAbs (b1 b2 : Byte)
  | andAbx (b1 b2 : Byte)
  | andAby (b1 b2 : Byte)
  | andIzx (b1 : Byte)
  | andIzy (b1 : Byte)
  | oraImm (b1 : Byte)
  | oraZp0 (b1 : Byte)
  | oraZpx (b1 : Byte)
  | oraAbs (b1 b2 : Byte)
  | oraAbx (b1 b2 : Byte)
  | oraAby (b1 b2 : Byte)
  | oraIzx (b1 : Byte)
  | oraIzy (b1 : Byte)
  | eorImm (b1 : Byte)
  | eorZp0 (b1 : Byte)
  | eorZpx (b1 : Byte)
  | eorAbs (b1 b2 : Byte)
  | eorAbx (b1 b2 : Byte)
  | eorAby (b1 b2 : Byte)
  | eorIzx (b1 : Byte)
  | eorIzy (b1 : Byte)
  | cmpImm (b1 : Byte)
  | cmpZp0 (b1 : Byte)
  | cmpZpx (b1 : Byte)
  | cmpAbs (b1 b2 : Byte)
  | cmpAbx (b1 b2 : Byte)
  | cmpAby (b1 b2 : Byte)
  | cmpIzx (b1 : Byte)
  | cmpIzy (b1 : Byte)
  | cpxImm (b1 : Byte)
  | cpxZp0 (b1 : Byte)
  | cpxAbs (b1 b2 : Byte)
  | cpyImm (b1 : Byte)
  | cpyZp0 (b1 : Byte)
  | cpyAbs (b1 b2 : Byte)
  | bitZp0 (b1 : Byte)
  | bitAbs (b1 b2 : Byte)
  | incZp0 (b1 : Byte)
  | incZpx (b1 : Byte)
  | incAbs (b1 b2 : Byte)
  | incAbx (b1 b2 : Byte)
  | decZp0 (b1 : Byte)
  | decZpx (b1 : Byte)
  | decAbs (b1 b2 : Byte)
  | decAbx (b1 b2 : Byte)
  | inx
  | iny
  | dex
  | dey
  | aslAcc
  | aslZp0 (b1 : Byte)
  | aslZpx (b1 : Byte)
  | aslAbs (b1 b2 : Byte)
  | aslAbx (b1 b2 : Byte)
  | lsrAcc
  | lsrZp0 (b1 : Byte)
  | lsrZpx (b1 : Byte)
  | lsrAbs (b1 b2 : Byte)
  | lsrAbx (b1 b2 : Byte)
  | rolAcc
  | rolZp0 (b1 : Byte)
  | rolZpx (b1 : Byte)
  | rolAbs (b1 b2 : Byte)
  | rolAbx (b1 b2 : Byte)
  | rorAcc
  | rorZp0 (b1 : Byte)
  | rorZpx (b1 : Byte)
  | rorAbs (b1 b2 : Byte)
  | rorAbx (b1 b2 : Byte)
  | bcc (b1 : Byte)
  | bcs (b1 : Byte)
  | beq (b1 : Byte)
  | bne (b1 : Byte)
  | bmi (b1 : Byte)
  | bpl (b1 : Byte)
  | bvc (b1 : Byte)
  | bvs (b1 : Byte)
  | jmpAbs (b1 b2 : Byte)
  | jmpInd (b1 b2 : Byte)
  | jsrAbs (b1 b2 : Byte)
  | rts
  | pha
  | pla
  | php
  | plp
  | clc
  | sec
  | cli
  | sei
  | cld
  | sed
  | clv
  | nop
  | brk
  | rti
  /-- an undefined opcode (R94), with its byte. -/
  | ill (opcode : Byte)
  deriving DecidableEq, Repr

end Sys2Proof
end

