-- ==== Sys2Proof/Machine/Operands.lean ====
section
/-! DEFINITION. The thirteen addressing modes (spec/40_addressing_modes.md R112 to R124), the operand fetch (R125), the
result write (R126), the page-cross bonus (R111), and the shared shapes of the instructions. Every operation here runs
after the instruction's bytes have been read: `PC` is the address of the byte after the instruction. -/

namespace Sys2Proof.Machine

/-- What a mode produces: the effective address and the page-cross report (40 section 3). -/
structure Located where
  ea : Addr
  crossed : Bool
  deriving DecidableEq, Repr

/-- An indexed 16-bit address and whether its high byte changed (R119, R120, R123). -/
def indexed (base : Addr) (index : Byte) : Located :=
  let ea := base + index.setWidth 16
  ⟨ea, !samePage ea base⟩

/-- The address of the second byte of an indirect jump's pointer (R121): within the page if the low byte is 0xFF. -/
def indirectHigh (b1 b2 : Byte) : Addr := if b1 = 0xFF then word16 b2 0x00 else word16 b2 b1 + 1

/-- The mode of an operand: `ea` and `crossed`, after the pointer reads of the mode in their order (R112 to R123). IMP
and ACC have no effective address; REL has none either, its target is the branch's (R124, R180). The effective
address of IMM is the address of its operand byte, the last of the instruction. -/
def locate (o : Operand) (s : State) : Located × State :=
  match o with
  | .imp | .acc | .rel _ => (⟨0, false⟩, s)
  | .imm _ => (⟨s.pc - 1, false⟩, s)
  | .zp0 b1 => (⟨zeroPage b1, false⟩, s)
  | .zpx b1 => (⟨zeroPage (b1 + s.x), false⟩, s)
  | .zpy b1 => (⟨zeroPage (b1 + s.y), false⟩, s)
  | .abs b1 b2 => (⟨word16 b2 b1, false⟩, s)
  | .abx b1 b2 => (indexed (word16 b2 b1) s.x, s)
  | .aby b1 b2 => (indexed (word16 b2 b1) s.y, s)
  | .ind b1 b2 =>
    let r := readPair (word16 b2 b1) (indirectHigh b1 b2) s
    (⟨r.1, false⟩, r.2)
  | .izx b1 =>
    let ptr := b1 + s.x
    let r := readPair (zeroPage ptr) (zeroPage (ptr + 1)) s
    (⟨r.1, false⟩, r.2)
  | .izy b1 =>
    let r := readPair (zeroPage b1) (zeroPage (b1 + 1)) s
    (indexed r.1 s.y, r.2)

/-- `Operand(mode, ea)` (R125): `A` in ACC, else exactly one read of `ea`. The read of an IMM operand is the read of
instruction byte 1, which the fetch has made (log entry 4). -/
def operandByte (o : Operand) (ea : Addr) (s : State) : Byte × State :=
  match o with
  | .acc => (s.a, s)
  | .imm b1 => (b1, s)
  | _ => busRead ea s

/-- `WriteBack(mode, ea, v)` (R126): `A` in ACC, else exactly one write of `ea`. -/
def writeBack (o : Operand) (ea : Addr) (v : Byte) (s : State) : State :=
  match o with
  | .acc => { s with a := v }
  | _ => busWrite ea v s

/-- `page_bonus` (R111). -/
def pageBonus (pgx crossed : Bool) : Nat := if pgx && crossed then 1 else 0

/-- An instruction that only reads its operand (R110): mode, operand fetch, the instruction's own effect, cycles. -/
def readInstr (effect : Byte → State → State) (o : Operand) (base : Nat) (pgx : Bool) (s : State) : State :=
  let l := locate o s
  let m := operandByte o l.1.ea l.2
  charge (base + pageBonus pgx l.1.crossed) (effect m.1 m.2)

/-- An instruction that stores a register (R110): mode, one write, cycles; no bonus (R111, decision D5). -/
def storeInstr (source : State → Byte) (o : Operand) (base : Nat) (s : State) : State :=
  let l := locate o s
  charge base (busWrite l.1.ea (source l.2) l.2)

/-- A read-modify-write (R110, R126): one read, then one write of the result, then Z and N from the result; `carry` says
what Carry becomes, none if it is unchanged. No bonus (R111, decision D5). -/
def modifyInstr (compute : State → Byte → Byte) (carry : Byte → Option Bool) (o : Operand) (base : Nat) (s : State) :
    State :=
  let l := locate o s
  let m := operandByte o l.1.ea l.2
  let r := compute m.2 m.1
  let t :=
    match carry m.1 with
    | some c => m.2.setFlag .carry c
    | none => m.2
  charge base ((writeBack o l.1.ea r t).setZN r)

/-- An instruction in IMP format (R112): its effect and its cycles. -/
def impliedInstr (effect : State → State) (base : Nat) (s : State) : State := charge base (effect s)

end Sys2Proof.Machine
end

