-- ==== Sys2Proof/Machine/LoadStore.lean ====
section
/-! DEFINITION. The load, store and register-transfer instructions (spec/41_load_store_transfer.md). Each definition is one
row of the opcode table: its format, its base cycles and its page-cross flag (spec/30_encoding.md R93). -/

namespace Sys2Proof.Machine

/-- The outcomes of a step of this machine. -/
abbrev Result := Host.Outcome State Fault Refusal

/-- `A <- M; SetZN(A)` (R130). -/
def loadA (m : Byte) (s : State) : State := { s with a := m }.setZN m

/-- `X <- M; SetZN(X)` (R131). -/
def loadX (m : Byte) (s : State) : State := { s with x := m }.setZN m

/-- `Y <- M; SetZN(Y)` (R132). -/
def loadY (m : Byte) (s : State) : State := { s with y := m }.setZN m

/-- `LDA` IMM, opcode 0xA9 (R130). -/
def execLdaImm (b1 : Byte) (s : State) : Result := .next (readInstr loadA (.imm b1) 2 false s)

/-- `LDA` ZP0, opcode 0xA5 (R130). -/
def execLdaZp0 (b1 : Byte) (s : State) : Result := .next (readInstr loadA (.zp0 b1) 3 false s)

/-- `LDA` ZPX, opcode 0xB5 (R130). -/
def execLdaZpx (b1 : Byte) (s : State) : Result := .next (readInstr loadA (.zpx b1) 4 false s)

/-- `LDA` ABS, opcode 0xAD (R130). -/
def execLdaAbs (b1 b2 : Byte) (s : State) : Result := .next (readInstr loadA (.abs b1 b2) 4 false s)

/-- `LDA` ABX, opcode 0xBD (R130). -/
def execLdaAbx (b1 b2 : Byte) (s : State) : Result := .next (readInstr loadA (.abx b1 b2) 4 true s)

/-- `LDA` ABY, opcode 0xB9 (R130). -/
def execLdaAby (b1 b2 : Byte) (s : State) : Result := .next (readInstr loadA (.aby b1 b2) 4 true s)

/-- `LDA` IZX, opcode 0xA1 (R130). -/
def execLdaIzx (b1 : Byte) (s : State) : Result := .next (readInstr loadA (.izx b1) 6 false s)

/-- `LDA` IZY, opcode 0xB1 (R130). -/
def execLdaIzy (b1 : Byte) (s : State) : Result := .next (readInstr loadA (.izy b1) 5 true s)

/-- `LDX` IMM, opcode 0xA2 (R131). -/
def execLdxImm (b1 : Byte) (s : State) : Result := .next (readInstr loadX (.imm b1) 2 false s)

/-- `LDX` ZP0, opcode 0xA6 (R131). -/
def execLdxZp0 (b1 : Byte) (s : State) : Result := .next (readInstr loadX (.zp0 b1) 3 false s)

/-- `LDX` ZPY, opcode 0xB6 (R131). -/
def execLdxZpy (b1 : Byte) (s : State) : Result := .next (readInstr loadX (.zpy b1) 4 false s)

/-- `LDX` ABS, opcode 0xAE (R131). -/
def execLdxAbs (b1 b2 : Byte) (s : State) : Result := .next (readInstr loadX (.abs b1 b2) 4 false s)

/-- `LDX` ABY, opcode 0xBE (R131). -/
def execLdxAby (b1 b2 : Byte) (s : State) : Result := .next (readInstr loadX (.aby b1 b2) 4 true s)

/-- `LDY` IMM, opcode 0xA0 (R132). -/
def execLdyImm (b1 : Byte) (s : State) : Result := .next (readInstr loadY (.imm b1) 2 false s)

/-- `LDY` ZP0, opcode 0xA4 (R132). -/
def execLdyZp0 (b1 : Byte) (s : State) : Result := .next (readInstr loadY (.zp0 b1) 3 false s)

/-- `LDY` ZPX, opcode 0xB4 (R132). -/
def execLdyZpx (b1 : Byte) (s : State) : Result := .next (readInstr loadY (.zpx b1) 4 false s)

/-- `LDY` ABS, opcode 0xAC (R132). -/
def execLdyAbs (b1 b2 : Byte) (s : State) : Result := .next (readInstr loadY (.abs b1 b2) 4 false s)

/-- `LDY` ABX, opcode 0xBC (R132). -/
def execLdyAbx (b1 b2 : Byte) (s : State) : Result := .next (readInstr loadY (.abx b1 b2) 4 true s)

/-- `STA` ZP0, opcode 0x85 (R133). -/
def execStaZp0 (b1 : Byte) (s : State) : Result := .next (storeInstr State.a (.zp0 b1) 3 s)

/-- `STA` ZPX, opcode 0x95 (R133). -/
def execStaZpx (b1 : Byte) (s : State) : Result := .next (storeInstr State.a (.zpx b1) 4 s)

/-- `STA` ABS, opcode 0x8D (R133). -/
def execStaAbs (b1 b2 : Byte) (s : State) : Result := .next (storeInstr State.a (.abs b1 b2) 4 s)

/-- `STA` ABX, opcode 0x9D (R133). -/
def execStaAbx (b1 b2 : Byte) (s : State) : Result := .next (storeInstr State.a (.abx b1 b2) 5 s)

/-- `STA` ABY, opcode 0x99 (R133). -/
def execStaAby (b1 b2 : Byte) (s : State) : Result := .next (storeInstr State.a (.aby b1 b2) 5 s)

/-- `STA` IZX, opcode 0x81 (R133). -/
def execStaIzx (b1 : Byte) (s : State) : Result := .next (storeInstr State.a (.izx b1) 6 s)

/-- `STA` IZY, opcode 0x91 (R133). -/
def execStaIzy (b1 : Byte) (s : State) : Result := .next (storeInstr State.a (.izy b1) 6 s)

/-- `STX` ZP0, opcode 0x86 (R134). -/
def execStxZp0 (b1 : Byte) (s : State) : Result := .next (storeInstr State.x (.zp0 b1) 3 s)

/-- `STX` ZPY, opcode 0x96 (R134). -/
def execStxZpy (b1 : Byte) (s : State) : Result := .next (storeInstr State.x (.zpy b1) 4 s)

/-- `STX` ABS, opcode 0x8E (R134). -/
def execStxAbs (b1 b2 : Byte) (s : State) : Result := .next (storeInstr State.x (.abs b1 b2) 4 s)

/-- `STY` ZP0, opcode 0x84 (R135). -/
def execStyZp0 (b1 : Byte) (s : State) : Result := .next (storeInstr State.y (.zp0 b1) 3 s)

/-- `STY` ZPX, opcode 0x94 (R135). -/
def execStyZpx (b1 : Byte) (s : State) : Result := .next (storeInstr State.y (.zpx b1) 4 s)

/-- `STY` ABS, opcode 0x8C (R135). -/
def execStyAbs (b1 b2 : Byte) (s : State) : Result := .next (storeInstr State.y (.abs b1 b2) 4 s)

/-- `TAX` IMP, opcode 0xAA (R136). -/
def execTax (s : State) : Result := .next (impliedInstr (fun s => loadX s.a s) 2 s)

/-- `TAY` IMP, opcode 0xA8 (R137). -/
def execTay (s : State) : Result := .next (impliedInstr (fun s => loadY s.a s) 2 s)

/-- `TXA` IMP, opcode 0x8A (R138). -/
def execTxa (s : State) : Result := .next (impliedInstr (fun s => loadA s.x s) 2 s)

/-- `TYA` IMP, opcode 0x98 (R139). -/
def execTya (s : State) : Result := .next (impliedInstr (fun s => loadA s.y s) 2 s)

/-- `TSX` IMP, opcode 0xBA (R140). -/
def execTsx (s : State) : Result := .next (impliedInstr (fun s => loadX s.sp s) 2 s)

/-- `TXS` IMP, opcode 0x9A (R141). -/
def execTxs (s : State) : Result := .next (impliedInstr (fun s => { s with sp := s.x }) 2 s)

end Sys2Proof.Machine
end

