-- ==== Sys2Proof/Machine/Arithmetic.lean ====
section
/-! DEFINITION. The arithmetic, logic, compare, increment and decrement instructions (spec/42_arithmetic_logic.md). Each
definition is one row of the opcode table: its format, its base cycles and its page-cross flag (spec/30_encoding.md
R93). -/

namespace Sys2Proof.Machine

/-- `ADC` (R150): binary whatever `P.D` holds (10_state.md R16). -/
def addA (m : Byte) (s : State) : State := s.addWithCarry m

/-- `SBC` (R151): "bitwise-complementing the operand before the same addition logic as ADC". -/
def subA (m : Byte) (s : State) : State := s.addWithCarry (m ^^^ 0xFF)

/-- `AND` (R152). -/
def andA (m : Byte) (s : State) : State := loadA (s.a &&& m) s

/-- `ORA` (R153). -/
def orA (m : Byte) (s : State) : State := loadA (s.a ||| m) s

/-- `EOR` (R154). -/
def eorA (m : Byte) (s : State) : State := loadA (s.a ^^^ m) s

/-- `CMP` (R155). -/
def compareA (m : Byte) (s : State) : State := s.compareFlags s.a m

/-- `CPX` (R156). -/
def compareX (m : Byte) (s : State) : State := s.compareFlags s.x m

/-- `CPY` (R157). -/
def compareY (m : Byte) (s : State) : State := s.compareFlags s.y m

/-- `INC` (R159) and `DEC` (R160) leave Carry unchanged. -/
def keepCarry (_ : Byte) : Option Bool := none

/-- `ADC` IMM, opcode 0x69 (R150). -/
def execAdcImm (b1 : Byte) (s : State) : Result := .next (readInstr addA (.imm b1) 2 false s)

/-- `ADC` ZP0, opcode 0x65 (R150). -/
def execAdcZp0 (b1 : Byte) (s : State) : Result := .next (readInstr addA (.zp0 b1) 3 false s)

/-- `ADC` ZPX, opcode 0x75 (R150). -/
def execAdcZpx (b1 : Byte) (s : State) : Result := .next (readInstr addA (.zpx b1) 4 false s)

/-- `ADC` ABS, opcode 0x6D (R150). -/
def execAdcAbs (b1 b2 : Byte) (s : State) : Result := .next (readInstr addA (.abs b1 b2) 4 false s)

/-- `ADC` ABX, opcode 0x7D (R150). -/
def execAdcAbx (b1 b2 : Byte) (s : State) : Result := .next (readInstr addA (.abx b1 b2) 4 true s)

/-- `ADC` ABY, opcode 0x79 (R150). -/
def execAdcAby (b1 b2 : Byte) (s : State) : Result := .next (readInstr addA (.aby b1 b2) 4 true s)

/-- `ADC` IZX, opcode 0x61 (R150). -/
def execAdcIzx (b1 : Byte) (s : State) : Result := .next (readInstr addA (.izx b1) 6 false s)

/-- `ADC` IZY, opcode 0x71 (R150). -/
def execAdcIzy (b1 : Byte) (s : State) : Result := .next (readInstr addA (.izy b1) 5 true s)

/-- `SBC` IMM, opcode 0xE9 (R151). -/
def execSbcImm (b1 : Byte) (s : State) : Result := .next (readInstr subA (.imm b1) 2 false s)

/-- `SBC` ZP0, opcode 0xE5 (R151). -/
def execSbcZp0 (b1 : Byte) (s : State) : Result := .next (readInstr subA (.zp0 b1) 3 false s)

/-- `SBC` ZPX, opcode 0xF5 (R151). -/
def execSbcZpx (b1 : Byte) (s : State) : Result := .next (readInstr subA (.zpx b1) 4 false s)

/-- `SBC` ABS, opcode 0xED (R151). -/
def execSbcAbs (b1 b2 : Byte) (s : State) : Result := .next (readInstr subA (.abs b1 b2) 4 false s)

/-- `SBC` ABX, opcode 0xFD (R151). -/
def execSbcAbx (b1 b2 : Byte) (s : State) : Result := .next (readInstr subA (.abx b1 b2) 4 true s)

/-- `SBC` ABY, opcode 0xF9 (R151). -/
def execSbcAby (b1 b2 : Byte) (s : State) : Result := .next (readInstr subA (.aby b1 b2) 4 true s)

/-- `SBC` IZX, opcode 0xE1 (R151). -/
def execSbcIzx (b1 : Byte) (s : State) : Result := .next (readInstr subA (.izx b1) 6 false s)

/-- `SBC` IZY, opcode 0xF1 (R151). -/
def execSbcIzy (b1 : Byte) (s : State) : Result := .next (readInstr subA (.izy b1) 5 true s)

/-- `AND` IMM, opcode 0x29 (R152). -/
def execAndImm (b1 : Byte) (s : State) : Result := .next (readInstr andA (.imm b1) 2 false s)

/-- `AND` ZP0, opcode 0x25 (R152). -/
def execAndZp0 (b1 : Byte) (s : State) : Result := .next (readInstr andA (.zp0 b1) 3 false s)

/-- `AND` ZPX, opcode 0x35 (R152). -/
def execAndZpx (b1 : Byte) (s : State) : Result := .next (readInstr andA (.zpx b1) 4 false s)

/-- `AND` ABS, opcode 0x2D (R152). -/
def execAndAbs (b1 b2 : Byte) (s : State) : Result := .next (readInstr andA (.abs b1 b2) 4 false s)

/-- `AND` ABX, opcode 0x3D (R152). -/
def execAndAbx (b1 b2 : Byte) (s : State) : Result := .next (readInstr andA (.abx b1 b2) 4 true s)

/-- `AND` ABY, opcode 0x39 (R152). -/
def execAndAby (b1 b2 : Byte) (s : State) : Result := .next (readInstr andA (.aby b1 b2) 4 true s)

/-- `AND` IZX, opcode 0x21 (R152). -/
def execAndIzx (b1 : Byte) (s : State) : Result := .next (readInstr andA (.izx b1) 6 false s)

/-- `AND` IZY, opcode 0x31 (R152). -/
def execAndIzy (b1 : Byte) (s : State) : Result := .next (readInstr andA (.izy b1) 5 true s)

/-- `ORA` IMM, opcode 0x09 (R153). -/
def execOraImm (b1 : Byte) (s : State) : Result := .next (readInstr orA (.imm b1) 2 false s)

/-- `ORA` ZP0, opcode 0x05 (R153). -/
def execOraZp0 (b1 : Byte) (s : State) : Result := .next (readInstr orA (.zp0 b1) 3 false s)

/-- `ORA` ZPX, opcode 0x15 (R153). -/
def execOraZpx (b1 : Byte) (s : State) : Result := .next (readInstr orA (.zpx b1) 4 false s)

/-- `ORA` ABS, opcode 0x0D (R153). -/
def execOraAbs (b1 b2 : Byte) (s : State) : Result := .next (readInstr orA (.abs b1 b2) 4 false s)

/-- `ORA` ABX, opcode 0x1D (R153). -/
def execOraAbx (b1 b2 : Byte) (s : State) : Result := .next (readInstr orA (.abx b1 b2) 4 true s)

/-- `ORA` ABY, opcode 0x19 (R153). -/
def execOraAby (b1 b2 : Byte) (s : State) : Result := .next (readInstr orA (.aby b1 b2) 4 true s)

/-- `ORA` IZX, opcode 0x01 (R153). -/
def execOraIzx (b1 : Byte) (s : State) : Result := .next (readInstr orA (.izx b1) 6 false s)

/-- `ORA` IZY, opcode 0x11 (R153). -/
def execOraIzy (b1 : Byte) (s : State) : Result := .next (readInstr orA (.izy b1) 5 true s)

/-- `EOR` IMM, opcode 0x49 (R154). -/
def execEorImm (b1 : Byte) (s : State) : Result := .next (readInstr eorA (.imm b1) 2 false s)

/-- `EOR` ZP0, opcode 0x45 (R154). -/
def execEorZp0 (b1 : Byte) (s : State) : Result := .next (readInstr eorA (.zp0 b1) 3 false s)

/-- `EOR` ZPX, opcode 0x55 (R154). -/
def execEorZpx (b1 : Byte) (s : State) : Result := .next (readInstr eorA (.zpx b1) 4 false s)

/-- `EOR` ABS, opcode 0x4D (R154). -/
def execEorAbs (b1 b2 : Byte) (s : State) : Result := .next (readInstr eorA (.abs b1 b2) 4 false s)

/-- `EOR` ABX, opcode 0x5D (R154). -/
def execEorAbx (b1 b2 : Byte) (s : State) : Result := .next (readInstr eorA (.abx b1 b2) 4 true s)

/-- `EOR` ABY, opcode 0x59 (R154). -/
def execEorAby (b1 b2 : Byte) (s : State) : Result := .next (readInstr eorA (.aby b1 b2) 4 true s)

/-- `EOR` IZX, opcode 0x41 (R154). -/
def execEorIzx (b1 : Byte) (s : State) : Result := .next (readInstr eorA (.izx b1) 6 false s)

/-- `EOR` IZY, opcode 0x51 (R154). -/
def execEorIzy (b1 : Byte) (s : State) : Result := .next (readInstr eorA (.izy b1) 5 true s)

/-- `CMP` IMM, opcode 0xC9 (R155). -/
def execCmpImm (b1 : Byte) (s : State) : Result := .next (readInstr compareA (.imm b1) 2 false s)

/-- `CMP` ZP0, opcode 0xC5 (R155). -/
def execCmpZp0 (b1 : Byte) (s : State) : Result := .next (readInstr compareA (.zp0 b1) 3 false s)

/-- `CMP` ZPX, opcode 0xD5 (R155). -/
def execCmpZpx (b1 : Byte) (s : State) : Result := .next (readInstr compareA (.zpx b1) 4 false s)

/-- `CMP` ABS, opcode 0xCD (R155). -/
def execCmpAbs (b1 b2 : Byte) (s : State) : Result := .next (readInstr compareA (.abs b1 b2) 4 false s)

/-- `CMP` ABX, opcode 0xDD (R155). -/
def execCmpAbx (b1 b2 : Byte) (s : State) : Result := .next (readInstr compareA (.abx b1 b2) 4 true s)

/-- `CMP` ABY, opcode 0xD9 (R155). -/
def execCmpAby (b1 b2 : Byte) (s : State) : Result := .next (readInstr compareA (.aby b1 b2) 4 true s)

/-- `CMP` IZX, opcode 0xC1 (R155). -/
def execCmpIzx (b1 : Byte) (s : State) : Result := .next (readInstr compareA (.izx b1) 6 false s)

/-- `CMP` IZY, opcode 0xD1 (R155). -/
def execCmpIzy (b1 : Byte) (s : State) : Result := .next (readInstr compareA (.izy b1) 5 true s)

/-- `CPX` IMM, opcode 0xE0 (R156). -/
def execCpxImm (b1 : Byte) (s : State) : Result := .next (readInstr compareX (.imm b1) 2 false s)

/-- `CPX` ZP0, opcode 0xE4 (R156). -/
def execCpxZp0 (b1 : Byte) (s : State) : Result := .next (readInstr compareX (.zp0 b1) 3 false s)

/-- `CPX` ABS, opcode 0xEC (R156). -/
def execCpxAbs (b1 b2 : Byte) (s : State) : Result := .next (readInstr compareX (.abs b1 b2) 4 false s)

/-- `CPY` IMM, opcode 0xC0 (R157). -/
def execCpyImm (b1 : Byte) (s : State) : Result := .next (readInstr compareY (.imm b1) 2 false s)

/-- `CPY` ZP0, opcode 0xC4 (R157). -/
def execCpyZp0 (b1 : Byte) (s : State) : Result := .next (readInstr compareY (.zp0 b1) 3 false s)

/-- `CPY` ABS, opcode 0xCC (R157). -/
def execCpyAbs (b1 b2 : Byte) (s : State) : Result := .next (readInstr compareY (.abs b1 b2) 4 false s)

/-- `BIT` ZP0, opcode 0x24 (R158). -/
def execBitZp0 (b1 : Byte) (s : State) : Result := .next (readInstr State.bitFlags (.zp0 b1) 3 false s)

/-- `BIT` ABS, opcode 0x2C (R158). -/
def execBitAbs (b1 b2 : Byte) (s : State) : Result := .next (readInstr State.bitFlags (.abs b1 b2) 4 false s)

/-- `INC` ZP0, opcode 0xE6 (R159). -/
def execIncZp0 (b1 : Byte) (s : State) : Result := .next (modifyInstr (fun _ v => v + 1) keepCarry (.zp0 b1) 5 s)

/-- `INC` ZPX, opcode 0xF6 (R159). -/
def execIncZpx (b1 : Byte) (s : State) : Result := .next (modifyInstr (fun _ v => v + 1) keepCarry (.zpx b1) 6 s)

/-- `INC` ABS, opcode 0xEE (R159). -/
def execIncAbs (b1 b2 : Byte) (s : State) : Result :=
  .next (modifyInstr (fun _ v => v + 1) keepCarry (.abs b1 b2) 6 s)

/-- `INC` ABX, opcode 0xFE (R159). -/
def execIncAbx (b1 b2 : Byte) (s : State) : Result :=
  .next (modifyInstr (fun _ v => v + 1) keepCarry (.abx b1 b2) 7 s)

/-- `DEC` ZP0, opcode 0xC6 (R160). -/
def execDecZp0 (b1 : Byte) (s : State) : Result := .next (modifyInstr (fun _ v => v - 1) keepCarry (.zp0 b1) 5 s)

/-- `DEC` ZPX, opcode 0xD6 (R160). -/
def execDecZpx (b1 : Byte) (s : State) : Result := .next (modifyInstr (fun _ v => v - 1) keepCarry (.zpx b1) 6 s)

/-- `DEC` ABS, opcode 0xCE (R160). -/
def execDecAbs (b1 b2 : Byte) (s : State) : Result :=
  .next (modifyInstr (fun _ v => v - 1) keepCarry (.abs b1 b2) 6 s)

/-- `DEC` ABX, opcode 0xDE (R160). -/
def execDecAbx (b1 b2 : Byte) (s : State) : Result :=
  .next (modifyInstr (fun _ v => v - 1) keepCarry (.abx b1 b2) 7 s)

/-- `INX` IMP, opcode 0xE8 (R161). -/
def execInx (s : State) : Result := .next (impliedInstr (fun s => loadX (s.x + 1) s) 2 s)

/-- `INY` IMP, opcode 0xC8 (R162). -/
def execIny (s : State) : Result := .next (impliedInstr (fun s => loadY (s.y + 1) s) 2 s)

/-- `DEX` IMP, opcode 0xCA (R163). -/
def execDex (s : State) : Result := .next (impliedInstr (fun s => loadX (s.x - 1) s) 2 s)

/-- `DEY` IMP, opcode 0x88 (R164). -/
def execDey (s : State) : Result := .next (impliedInstr (fun s => loadY (s.y - 1) s) 2 s)

end Sys2Proof.Machine
end

