-- ==== Sys2Proof/Machine/Branch.lean ====
section
/-! DEFINITION. The branch, jump and subroutine instructions (spec/44_branch_jump.md). -/

namespace Sys2Proof.Machine

/-- The target of a branch: the incremented `PC` plus the sign-extended displacement (40 R124; R180). -/
def branchTarget (b1 : Byte) (s : State) : Addr := s.pc + sext8 b1

/-- `Branch(cond, rel)` with its cycles (R180): 2 not taken, 3 taken within the page, 4 taken across a page. -/
def branch (cond : Bool) (b1 : Byte) (s : State) : State :=
  if cond then
    let target := branchTarget b1 s
    charge (if samePage target s.pc then 3 else 4) { s with pc := target }
  else charge 2 s

/-- `PC <- ea` (R189). -/
def jump (o : Operand) (base : Nat) (s : State) : State :=
  let l := locate o s
  charge base { l.2 with pc := l.1.ea }

/-- `JSR` (R190): push the address of the third byte, high then low, and jump. -/
def jumpSubroutine (o : Operand) (base : Nat) (s : State) : State :=
  let l := locate o s
  charge base { push16 (l.2.pc - 1) l.2 with pc := l.1.ea }

/-- `RTS` (R191): pull low then high, and add one. -/
def returnSubroutine (s : State) : State :=
  let r := pull16 s
  { r.2 with pc := r.1 + 1 }

/-- `BCC` REL, opcode 0x90 (R181). -/
def execBcc (b1 : Byte) (s : State) : Result := .next (branch (!s.flag .carry) b1 s)

/-- `BCS` REL, opcode 0xB0 (R182). -/
def execBcs (b1 : Byte) (s : State) : Result := .next (branch (s.flag .carry) b1 s)

/-- `BEQ` REL, opcode 0xF0 (R183). -/
def execBeq (b1 : Byte) (s : State) : Result := .next (branch (s.flag .zero) b1 s)

/-- `BNE` REL, opcode 0xD0 (R184). -/
def execBne (b1 : Byte) (s : State) : Result := .next (branch (!s.flag .zero) b1 s)

/-- `BMI` REL, opcode 0x30 (R185). -/
def execBmi (b1 : Byte) (s : State) : Result := .next (branch (s.flag .negative) b1 s)

/-- `BPL` REL, opcode 0x10 (R186). -/
def execBpl (b1 : Byte) (s : State) : Result := .next (branch (!s.flag .negative) b1 s)

/-- `BVC` REL, opcode 0x50 (R187). -/
def execBvc (b1 : Byte) (s : State) : Result := .next (branch (!s.flag .overflow) b1 s)

/-- `BVS` REL, opcode 0x70 (R188). -/
def execBvs (b1 : Byte) (s : State) : Result := .next (branch (s.flag .overflow) b1 s)

/-- `JMP` ABS, opcode 0x4C (R189). -/
def execJmpAbs (b1 b2 : Byte) (s : State) : Result := .next (jump (.abs b1 b2) 3 s)

/-- `JMP` IND, opcode 0x6C (R189). -/
def execJmpInd (b1 b2 : Byte) (s : State) : Result := .next (jump (.ind b1 b2) 5 s)

/-- `JSR` ABS, opcode 0x20 (R190). -/
def execJsrAbs (b1 b2 : Byte) (s : State) : Result := .next (jumpSubroutine (.abs b1 b2) 6 s)

/-- `RTS` IMP, opcode 0x60 (R191). -/
def execRts (s : State) : Result := .next (impliedInstr returnSubroutine 6 s)

end Sys2Proof.Machine
end

