-- ==== Sys2Proof/Machine/Shift.lean ====
section
/-! DEFINITION. The shift and rotate instructions (spec/43_shift_rotate.md), on `A` or on memory by format. Each definition
is one row of the opcode table (spec/30_encoding.md R93). -/

namespace Sys2Proof.Machine

/-- The bit that a left shift or rotate moves to Carry (R170, R172). -/
def carryLeft (v : Byte) : Option Bool := some (shiftLeft v).2

/-- The bit that a right shift or rotate moves to Carry (R171, R173). -/
def carryRight (v : Byte) : Option Bool := some (shiftRight v).2

/-- `ASL` ACC, opcode 0x0A (R170). -/
def execAslAcc (s : State) : Result := .next (modifyInstr (fun _ v => (shiftLeft v).1) carryLeft .acc 2 s)

/-- `ASL` ZP0, opcode 0x06 (R170). -/
def execAslZp0 (b1 : Byte) (s : State) : Result :=
  .next (modifyInstr (fun _ v => (shiftLeft v).1) carryLeft (.zp0 b1) 5 s)

/-- `ASL` ZPX, opcode 0x16 (R170). -/
def execAslZpx (b1 : Byte) (s : State) : Result :=
  .next (modifyInstr (fun _ v => (shiftLeft v).1) carryLeft (.zpx b1) 6 s)

/-- `ASL` ABS, opcode 0x0E (R170). -/
def execAslAbs (b1 b2 : Byte) (s : State) : Result :=
  .next (modifyInstr (fun _ v => (shiftLeft v).1) carryLeft (.abs b1 b2) 6 s)

/-- `ASL` ABX, opcode 0x1E (R170). -/
def execAslAbx (b1 b2 : Byte) (s : State) : Result :=
  .next (modifyInstr (fun _ v => (shiftLeft v).1) carryLeft (.abx b1 b2) 7 s)

/-- `LSR` ACC, opcode 0x4A (R171). -/
def execLsrAcc (s : State) : Result := .next (modifyInstr (fun _ v => (shiftRight v).1) carryRight .acc 2 s)

/-- `LSR` ZP0, opcode 0x46 (R171). -/
def execLsrZp0 (b1 : Byte) (s : State) : Result :=
  .next (modifyInstr (fun _ v => (shiftRight v).1) carryRight (.zp0 b1) 5 s)

/-- `LSR` ZPX, opcode 0x56 (R171). -/
def execLsrZpx (b1 : Byte) (s : State) : Result :=
  .next (modifyInstr (fun _ v => (shiftRight v).1) carryRight (.zpx b1) 6 s)

/-- `LSR` ABS, opcode 0x4E (R171). -/
def execLsrAbs (b1 b2 : Byte) (s : State) : Result :=
  .next (modifyInstr (fun _ v => (shiftRight v).1) carryRight (.abs b1 b2) 6 s)

/-- `LSR` ABX, opcode 0x5E (R171). -/
def execLsrAbx (b1 b2 : Byte) (s : State) : Result :=
  .next (modifyInstr (fun _ v => (shiftRight v).1) carryRight (.abx b1 b2) 7 s)

/-- `ROL` ACC, opcode 0x2A (R172). -/
def execRolAcc (s : State) : Result :=
  .next (modifyInstr (fun s v => (rotateLeft (s.flag .carry) v).1) carryLeft .acc 2 s)

/-- `ROL` ZP0, opcode 0x26 (R172). -/
def execRolZp0 (b1 : Byte) (s : State) : Result :=
  .next (modifyInstr (fun s v => (rotateLeft (s.flag .carry) v).1) carryLeft (.zp0 b1) 5 s)

/-- `ROL` ZPX, opcode 0x36 (R172). -/
def execRolZpx (b1 : Byte) (s : State) : Result :=
  .next (modifyInstr (fun s v => (rotateLeft (s.flag .carry) v).1) carryLeft (.zpx b1) 6 s)

/-- `ROL` ABS, opcode 0x2E (R172). -/
def execRolAbs (b1 b2 : Byte) (s : State) : Result :=
  .next (modifyInstr (fun s v => (rotateLeft (s.flag .carry) v).1) carryLeft (.abs b1 b2) 6 s)

/-- `ROL` ABX, opcode 0x3E (R172). -/
def execRolAbx (b1 b2 : Byte) (s : State) : Result :=
  .next (modifyInstr (fun s v => (rotateLeft (s.flag .carry) v).1) carryLeft (.abx b1 b2) 7 s)

/-- `ROR` ACC, opcode 0x6A (R173). -/
def execRorAcc (s : State) : Result :=
  .next (modifyInstr (fun s v => (rotateRight (s.flag .carry) v).1) carryRight .acc 2 s)

/-- `ROR` ZP0, opcode 0x66 (R173). -/
def execRorZp0 (b1 : Byte) (s : State) : Result :=
  .next (modifyInstr (fun s v => (rotateRight (s.flag .carry) v).1) carryRight (.zp0 b1) 5 s)

/-- `ROR` ZPX, opcode 0x76 (R173). -/
def execRorZpx (b1 : Byte) (s : State) : Result :=
  .next (modifyInstr (fun s v => (rotateRight (s.flag .carry) v).1) carryRight (.zpx b1) 6 s)

/-- `ROR` ABS, opcode 0x6E (R173). -/
def execRorAbs (b1 b2 : Byte) (s : State) : Result :=
  .next (modifyInstr (fun s v => (rotateRight (s.flag .carry) v).1) carryRight (.abs b1 b2) 6 s)

/-- `ROR` ABX, opcode 0x7E (R173). -/
def execRorAbx (b1 b2 : Byte) (s : State) : Result :=
  .next (modifyInstr (fun s v => (rotateRight (s.flag .carry) v).1) carryRight (.abx b1 b2) 7 s)

end Sys2Proof.Machine
end

