-- ==== Sys2Proof/Machine/System.lean ====
section
/-! DEFINITION. The stack, flag and system instructions and the undefined opcodes (spec/45_stack_flags_system.md). -/

namespace Sys2Proof.Machine

/-- `A <- Pull(); SetZN(A)` (R201). -/
def pullA (s : State) : State :=
  let r := pull s
  loadA r.1 r.2

/-- `v <- Pull(); P <- (v & 0xCF) | 0x20` (R203). -/
def pullP (s : State) : State :=
  let r := pull s
  { r.2 with p := statusOfPulled r.1 }

/-- `BRK` (R212): skip the byte after the opcode, without reading it, and take the interrupt through 0xFFFE. -/
def softwareInterrupt (s : State) : State :=
  takeInterrupt (pushedByBrk s.p) 0xFFFE { s with pc := s.pc + 1 }

/-- `PHA` IMP, opcode 0x48 (R200). -/
def execPha (s : State) : Result := .next (impliedInstr (fun s => push s.a s) 3 s)

/-- `PLA` IMP, opcode 0x68 (R201). -/
def execPla (s : State) : Result := .next (impliedInstr pullA 4 s)

/-- `PHP` IMP, opcode 0x08 (R202). -/
def execPhp (s : State) : Result := .next (impliedInstr (fun s => push (pushedByBrk s.p) s) 3 s)

/-- `PLP` IMP, opcode 0x28 (R203). -/
def execPlp (s : State) : Result := .next (impliedInstr pullP 4 s)

/-- `CLC` IMP, opcode 0x18 (R204). -/
def execClc (s : State) : Result := .next (impliedInstr (State.setFlag .carry false) 2 s)

/-- `SEC` IMP, opcode 0x38 (R205). -/
def execSec (s : State) : Result := .next (impliedInstr (State.setFlag .carry true) 2 s)

/-- `CLI` IMP, opcode 0x58 (R206). -/
def execCli (s : State) : Result := .next (impliedInstr (State.setFlag .interruptDisable false) 2 s)

/-- `SEI` IMP, opcode 0x78 (R207). -/
def execSei (s : State) : Result := .next (impliedInstr (State.setFlag .interruptDisable true) 2 s)

/-- `CLD` IMP, opcode 0xD8 (R208). -/
def execCld (s : State) : Result := .next (impliedInstr (State.setFlag .decimal false) 2 s)

/-- `SED` IMP, opcode 0xF8 (R209). -/
def execSed (s : State) : Result := .next (impliedInstr (State.setFlag .decimal true) 2 s)

/-- `CLV` IMP, opcode 0xB8 (R210). -/
def execClv (s : State) : Result := .next (impliedInstr (State.setFlag .overflow false) 2 s)

/-- `NOP` IMP, opcode 0xEA (R211). -/
def execNop (s : State) : Result := .next (impliedInstr (fun s => s) 2 s)

/-- `BRK` IMP, opcode 0x00 (R212). -/
def execBrk (s : State) : Result := .next (impliedInstr softwareInterrupt 7 s)

/-- `RTI` IMP, opcode 0x40 (R213). -/
def execRti (s : State) : Result := .next (impliedInstr returnFromInterrupt 6 s)

/-- `ILL`, an undefined opcode (R214; 60_exceptions.md R301). Under the policy `fault` it records `IllegalOpcode(opcode, at)`,
where `at` is the address the opcode was read from (one below `PC`), consumes no cycle and changes nothing else; `step`
has no step from then on. Under `nop` it is a one-byte no-operation of 2 cycles. -/
def execIll (opcode : Byte) (s : State) : Result :=
  .next
    (match s.params.illegalOpcodePolicy with
     | .fault => { s with fault := some (.illegalOpcode opcode (s.pc - 1)) }
     | .nop => charge 2 s)

end Sys2Proof.Machine
end

