-- ==== Sys2Proof/WellFormed.lean ====
section
/-! DEFINITION. Well-formed instructions: the one field that not every value may fill is the byte of `ill`, which is
one of the 105 undefined opcodes (spec/30_encoding.md R94). -/

namespace Sys2Proof

/-- The undefined opcode bytes as R94 lists them: every byte whose low nibble is 3, 7, B or F, and four lists. -/
def isUndefinedOpcode (op : Byte) : Bool :=
  [0x3, 0x7, 0xB, 0xF].contains (op.toNat % 16) ||
  [0x02, 0x12, 0x22, 0x32, 0x42, 0x52, 0x62, 0x72, 0x92, 0xB2, 0xD2, 0xF2, 0x82, 0xC2, 0xE2].contains op.toNat ||
  [0x04, 0x0C, 0x14, 0x1C, 0x34, 0x3C, 0x44, 0x54, 0x5C, 0x64, 0x74, 0x7C, 0x80, 0xD4, 0xDC, 0xF4,
   0xFC].contains op.toNat ||
  [0x1A, 0x3A, 0x5A, 0x7A, 0xDA, 0xFA].contains op.toNat ||
  [0x89, 0x9C, 0x9E].contains op.toNat

/-- An instruction is well formed unless it is an `ill` whose byte is a defined opcode. -/
def Instr.wellFormed : Instr → Bool
  | .ill opcode => isUndefinedOpcode opcode
  | .ldaImm .. | .ldaZp0 .. | .ldaZpx .. | .ldaAbs .. | .ldaAbx .. | .ldaAby .. => true
  | .ldaIzx .. | .ldaIzy .. | .ldxImm .. | .ldxZp0 .. | .ldxZpy .. | .ldxAbs .. => true
  | .ldxAby .. | .ldyImm .. | .ldyZp0 .. | .ldyZpx .. | .ldyAbs .. | .ldyAbx .. => true
  | .staZp0 .. | .staZpx .. | .staAbs .. | .staAbx .. | .staAby .. | .staIzx .. => true
  | .staIzy .. | .stxZp0 .. | .stxZpy .. | .stxAbs .. | .styZp0 .. | .styZpx .. => true
  | .styAbs .. | .tax | .tay | .txa | .tya | .tsx => true
  | .txs | .adcImm .. | .adcZp0 .. | .adcZpx .. | .adcAbs .. | .adcAbx .. => true
  | .adcAby .. | .adcIzx .. | .adcIzy .. | .sbcImm .. | .sbcZp0 .. | .sbcZpx .. => true
  | .sbcAbs .. | .sbcAbx .. | .sbcAby .. | .sbcIzx .. | .sbcIzy .. | .andImm .. => true
  | .andZp0 .. | .andZpx .. | .andAbs .. | .andAbx .. | .andAby .. | .andIzx .. => true
  | .andIzy .. | .oraImm .. | .oraZp0 .. | .oraZpx .. | .oraAbs .. | .oraAbx .. => true
  | .oraAby .. | .oraIzx .. | .oraIzy .. | .eorImm .. | .eorZp0 .. | .eorZpx .. => true
  | .eorAbs .. | .eorAbx .. | .eorAby .. | .eorIzx .. | .eorIzy .. | .cmpImm .. => true
  | .cmpZp0 .. | .cmpZpx .. | .cmpAbs .. | .cmpAbx .. | .cmpAby .. | .cmpIzx .. => true
  | .cmpIzy .. | .cpxImm .. | .cpxZp0 .. | .cpxAbs .. | .cpyImm .. | .cpyZp0 .. => true
  | .cpyAbs .. | .bitZp0 .. | .bitAbs .. | .incZp0 .. | .incZpx .. | .incAbs .. => true
  | .incAbx .. | .decZp0 .. | .decZpx .. | .decAbs .. | .decAbx .. | .inx => true
  | .iny | .dex | .dey | .aslAcc | .aslZp0 .. | .aslZpx .. => true
  | .aslAbs .. | .aslAbx .. | .lsrAcc | .lsrZp0 .. | .lsrZpx .. | .lsrAbs .. => true
  | .lsrAbx .. | .rolAcc | .rolZp0 .. | .rolZpx .. | .rolAbs .. | .rolAbx .. => true
  | .rorAcc | .rorZp0 .. | .rorZpx .. | .rorAbs .. | .rorAbx .. | .bcc .. => true
  | .bcs .. | .beq .. | .bne .. | .bmi .. | .bpl .. | .bvc .. => true
  | .bvs .. | .jmpAbs .. | .jmpInd .. | .jsrAbs .. | .rts | .pha => true
  | .pla | .php | .plp | .clc | .sec | .cli => true
  | .sei | .cld | .sed | .clv | .nop | .brk => true
  | .rti => true

end Sys2Proof
end

