-- ==== Sys2Proof/Decode.lean ====
section
/-! DEFINITION. Decoding (spec/30_encoding.md R90, R91, R93, R96), total on any bytes; after it the instruction table's
row view of an instruction (10_state.md R19, written from R95 and the instruction rules' Encoding lines) and the
encoder, written from R95. -/

namespace Sys2Proof

/-- Row 0x of the opcode map R93. -/
def opcodeRow0 (b1 b2 : Byte) : List Instr :=
  [.brk, .oraIzx b1, .ill 0x02, .ill 0x03,
   .ill 0x04, .oraZp0 b1, .aslZp0 b1, .ill 0x07,
   .php, .oraImm b1, .aslAcc, .ill 0x0B,
   .ill 0x0C, .oraAbs b1 b2, .aslAbs b1 b2, .ill 0x0F]

/-- Row 1x of the opcode map R93. -/
def opcodeRow1 (b1 b2 : Byte) : List Instr :=
  [.bpl b1, .oraIzy b1, .ill 0x12, .ill 0x13,
   .ill 0x14, .oraZpx b1, .aslZpx b1, .ill 0x17,
   .clc, .oraAby b1 b2, .ill 0x1A, .ill 0x1B,
   .ill 0x1C, .oraAbx b1 b2, .aslAbx b1 b2, .ill 0x1F]

/-- Row 2x of the opcode map R93. -/
def opcodeRow2 (b1 b2 : Byte) : List Instr :=
  [.jsrAbs b1 b2, .andIzx b1, .ill 0x22, .ill 0x23,
   .bitZp0 b1, .andZp0 b1, .rolZp0 b1, .ill 0x27,
   .plp, .andImm b1, .rolAcc, .ill 0x2B,
   .bitAbs b1 b2, .andAbs b1 b2, .rolAbs b1 b2, .ill 0x2F]

/-- Row 3x of the opcode map R93. -/
def opcodeRow3 (b1 b2 : Byte) : List Instr :=
  [.bmi b1, .andIzy b1, .ill 0x32, .ill 0x33,
   .ill 0x34, .andZpx b1, .rolZpx b1, .ill 0x37,
   .sec, .andAby b1 b2, .ill 0x3A, .ill 0x3B,
   .ill 0x3C, .andAbx b1 b2, .rolAbx b1 b2, .ill 0x3F]

/-- Row 4x of the opcode map R93. -/
def opcodeRow4 (b1 b2 : Byte) : List Instr :=
  [.rti, .eorIzx b1, .ill 0x42, .ill 0x43,
   .ill 0x44, .eorZp0 b1, .lsrZp0 b1, .ill 0x47,
   .pha, .eorImm b1, .lsrAcc, .ill 0x4B,
   .jmpAbs b1 b2, .eorAbs b1 b2, .lsrAbs b1 b2, .ill 0x4F]

/-- Row 5x of the opcode map R93. -/
def opcodeRow5 (b1 b2 : Byte) : List Instr :=
  [.bvc b1, .eorIzy b1, .ill 0x52, .ill 0x53,
   .ill 0x54, .eorZpx b1, .lsrZpx b1, .ill 0x57,
   .cli, .eorAby b1 b2, .ill 0x5A, .ill 0x5B,
   .ill 0x5C, .eorAbx b1 b2, .lsrAbx b1 b2, .ill 0x5F]

/-- Row 6x of the opcode map R93. -/
def opcodeRow6 (b1 b2 : Byte) : List Instr :=
  [.rts, .adcIzx b1, .ill 0x62, .ill 0x63,
   .ill 0x64, .adcZp0 b1, .rorZp0 b1, .ill 0x67,
   .pla, .adcImm b1, .rorAcc, .ill 0x6B,
   .jmpInd b1 b2, .adcAbs b1 b2, .rorAbs b1 b2, .ill 0x6F]

/-- Row 7x of the opcode map R93. -/
def opcodeRow7 (b1 b2 : Byte) : List Instr :=
  [.bvs b1, .adcIzy b1, .ill 0x72, .ill 0x73,
   .ill 0x74, .adcZpx b1, .rorZpx b1, .ill 0x77,
   .sei, .adcAby b1 b2, .ill 0x7A, .ill 0x7B,
   .ill 0x7C, .adcAbx b1 b2, .rorAbx b1 b2, .ill 0x7F]

/-- Row 8x of the opcode map R93. -/
def opcodeRow8 (b1 b2 : Byte) : List Instr :=
  [.ill 0x80, .staIzx b1, .ill 0x82, .ill 0x83,
   .styZp0 b1, .staZp0 b1, .stxZp0 b1, .ill 0x87,
   .dey, .ill 0x89, .txa, .ill 0x8B,
   .styAbs b1 b2, .staAbs b1 b2, .stxAbs b1 b2, .ill 0x8F]

/-- Row 9x of the opcode map R93. -/
def opcodeRow9 (b1 b2 : Byte) : List Instr :=
  [.bcc b1, .staIzy b1, .ill 0x92, .ill 0x93,
   .styZpx b1, .staZpx b1, .stxZpy b1, .ill 0x97,
   .tya, .staAby b1 b2, .txs, .ill 0x9B,
   .ill 0x9C, .staAbx b1 b2, .ill 0x9E, .ill 0x9F]

/-- Row Ax of the opcode map R93. -/
def opcodeRowA (b1 b2 : Byte) : List Instr :=
  [.ldyImm b1, .ldaIzx b1, .ldxImm b1, .ill 0xA3,
   .ldyZp0 b1, .ldaZp0 b1, .ldxZp0 b1, .ill 0xA7,
   .tay, .ldaImm b1, .tax, .ill 0xAB,
   .ldyAbs b1 b2, .ldaAbs b1 b2, .ldxAbs b1 b2, .ill 0xAF]

/-- Row Bx of the opcode map R93. -/
def opcodeRowB (b1 b2 : Byte) : List Instr :=
  [.bcs b1, .ldaIzy b1, .ill 0xB2, .ill 0xB3,
   .ldyZpx b1, .ldaZpx b1, .ldxZpy b1, .ill 0xB7,
   .clv, .ldaAby b1 b2, .tsx, .ill 0xBB,
   .ldyAbx b1 b2, .ldaAbx b1 b2, .ldxAby b1 b2, .ill 0xBF]

/-- Row Cx of the opcode map R93. -/
def opcodeRowC (b1 b2 : Byte) : List Instr :=
  [.cpyImm b1, .cmpIzx b1, .ill 0xC2, .ill 0xC3,
   .cpyZp0 b1, .cmpZp0 b1, .decZp0 b1, .ill 0xC7,
   .iny, .cmpImm b1, .dex, .ill 0xCB,
   .cpyAbs b1 b2, .cmpAbs b1 b2, .decAbs b1 b2, .ill 0xCF]

/-- Row Dx of the opcode map R93. -/
def opcodeRowD (b1 b2 : Byte) : List Instr :=
  [.bne b1, .cmpIzy b1, .ill 0xD2, .ill 0xD3,
   .ill 0xD4, .cmpZpx b1, .decZpx b1, .ill 0xD7,
   .cld, .cmpAby b1 b2, .ill 0xDA, .ill 0xDB,
   .ill 0xDC, .cmpAbx b1 b2, .decAbx b1 b2, .ill 0xDF]

/-- Row Ex of the opcode map R93. -/
def opcodeRowE (b1 b2 : Byte) : List Instr :=
  [.cpxImm b1, .sbcIzx b1, .ill 0xE2, .ill 0xE3,
   .cpxZp0 b1, .sbcZp0 b1, .incZp0 b1, .ill 0xE7,
   .inx, .sbcImm b1, .nop, .ill 0xEB,
   .cpxAbs b1 b2, .sbcAbs b1 b2, .incAbs b1 b2, .ill 0xEF]

/-- Row Fx of the opcode map R93. -/
def opcodeRowF (b1 b2 : Byte) : List Instr :=
  [.beq b1, .sbcIzy b1, .ill 0xF2, .ill 0xF3,
   .ill 0xF4, .sbcZpx b1, .incZpx b1, .ill 0xF7,
   .sed, .sbcAby b1 b2, .ill 0xFA, .ill 0xFB,
   .ill 0xFC, .sbcAbx b1 b2, .incAbx b1 b2, .ill 0xFF]

/-- The opcode map R93, one list per row (the high nibble of the opcode). -/
def opcodeMap (b1 b2 : Byte) : List (List Instr) :=
  [opcodeRow0 b1 b2, opcodeRow1 b1 b2, opcodeRow2 b1 b2, opcodeRow3 b1 b2,
   opcodeRow4 b1 b2, opcodeRow5 b1 b2, opcodeRow6 b1 b2, opcodeRow7 b1 b2,
   opcodeRow8 b1 b2, opcodeRow9 b1 b2, opcodeRowA b1 b2, opcodeRowB b1 b2,
   opcodeRowC b1 b2, opcodeRowD b1 b2, opcodeRowE b1 b2, opcodeRowF b1 b2]

/-- The entry of the opcode map for an opcode byte and the two bytes after it: "the table is indexed by opcode byte"
(R90). Every index holds an entry, so the defaults of the two lookups are never used. -/
def instrOf (opcode b1 b2 : Byte) : Instr :=
  ((opcodeMap b1 b2).getD (opcode.toNat / 16) []).getD (opcode.toNat % 16) (.ill opcode)

/-- The mnemonic of an instruction (R95). -/
def Instr.mnemonic : Instr → Mnemonic
  | .ldaImm .. | .ldaZp0 .. | .ldaZpx .. | .ldaAbs .. => .lda
  | .ldaAbx .. | .ldaAby .. | .ldaIzx .. | .ldaIzy .. => .lda
  | .ldxImm .. | .ldxZp0 .. | .ldxZpy .. | .ldxAbs .. => .ldx
  | .ldxAby .. => .ldx
  | .ldyImm .. | .ldyZp0 .. | .ldyZpx .. | .ldyAbs .. => .ldy
  | .ldyAbx .. => .ldy
  | .staZp0 .. | .staZpx .. | .staAbs .. | .staAbx .. => .sta
  | .staAby .. | .staIzx .. | .staIzy .. => .sta
  | .stxZp0 .. | .stxZpy .. | .stxAbs .. => .stx
  | .styZp0 .. | .styZpx .. | .styAbs .. => .sty
  | .tax => .tax
  | .tay => .tay
  | .txa => .txa
  | .tya => .tya
  | .tsx => .tsx
  | .txs => .txs
  | .adcImm .. | .adcZp0 .. | .adcZpx .. | .adcAbs .. => .adc
  | .adcAbx .. | .adcAby .. | .adcIzx .. | .adcIzy .. => .adc
  | .sbcImm .. | .sbcZp0 .. | .sbcZpx .. | .sbcAbs .. => .sbc
  | .sbcAbx .. | .sbcAby .. | .sbcIzx .. | .sbcIzy .. => .sbc
  | .andImm .. | .andZp0 .. | .andZpx .. | .andAbs .. => .and
  | .andAbx .. | .andAby .. | .andIzx .. | .andIzy .. => .and
  | .oraImm .. | .oraZp0 .. | .oraZpx .. | .oraAbs .. => .ora
  | .oraAbx .. | .oraAby .. | .oraIzx .. | .oraIzy .. => .ora
  | .eorImm .. | .eorZp0 .. | .eorZpx .. | .eorAbs .. => .eor
  | .eorAbx .. | .eorAby .. | .eorIzx .. | .eorIzy .. => .eor
  | .cmpImm .. | .cmpZp0 .. | .cmpZpx .. | .cmpAbs .. => .cmp
  | .cmpAbx .. | .cmpAby .. | .cmpIzx .. | .cmpIzy .. => .cmp
  | .cpxImm .. | .cpxZp0 .. | .cpxAbs .. => .cpx
  | .cpyImm .. | .cpyZp0 .. | .cpyAbs .. => .cpy
  | .bitZp0 .. | .bitAbs .. => .bit
  | .incZp0 .. | .incZpx .. | .incAbs .. | .incAbx .. => .inc
  | .decZp0 .. | .decZpx .. | .decAbs .. | .decAbx .. => .dec
  | .inx => .inx
  | .iny => .iny
  | .dex => .dex
  | .dey => .dey
  | .aslAcc | .aslZp0 .. | .aslZpx .. | .aslAbs .. => .asl
  | .aslAbx .. => .asl
  | .lsrAcc | .lsrZp0 .. | .lsrZpx .. | .lsrAbs .. => .lsr
  | .lsrAbx .. => .lsr
  | .rolAcc | .rolZp0 .. | .rolZpx .. | .rolAbs .. => .rol
  | .rolAbx .. => .rol
  | .rorAcc | .rorZp0 .. | .rorZpx .. | .rorAbs .. => .ror
  | .rorAbx .. => .ror
  | .bcc .. => .bcc
  | .bcs .. => .bcs
  | .beq .. => .beq
  | .bne .. => .bne
  | .bmi .. => .bmi
  | .bpl .. => .bpl
  | .bvc .. => .bvc
  | .bvs .. => .bvs
  | .jmpAbs .. | .jmpInd .. => .jmp
  | .jsrAbs .. => .jsr
  | .rts => .rts
  | .pha => .pha
  | .pla => .pla
  | .php => .php
  | .plp => .plp
  | .clc => .clc
  | .sec => .sec
  | .cli => .cli
  | .sei => .sei
  | .cld => .cld
  | .sed => .sed
  | .clv => .clv
  | .nop => .nop
  | .brk => .brk
  | .rti => .rti
  | .ill _ => .ill

/-- The format of an instruction with its operand bytes (R92, R95). An undefined opcode has no operand (R214). -/
def Instr.operand : Instr → Operand
  | .ldaImm b1 => .imm b1
  | .ldaZp0 b1 => .zp0 b1
  | .ldaZpx b1 => .zpx b1
  | .ldaAbs b1 b2 => .abs b1 b2
  | .ldaAbx b1 b2 => .abx b1 b2
  | .ldaAby b1 b2 => .aby b1 b2
  | .ldaIzx b1 => .izx b1
  | .ldaIzy b1 => .izy b1
  | .ldxImm b1 => .imm b1
  | .ldxZp0 b1 => .zp0 b1
  | .ldxZpy b1 => .zpy b1
  | .ldxAbs b1 b2 => .abs b1 b2
  | .ldxAby b1 b2 => .aby b1 b2
  | .ldyImm b1 => .imm b1
  | .ldyZp0 b1 => .zp0 b1
  | .ldyZpx b1 => .zpx b1
  | .ldyAbs b1 b2 => .abs b1 b2
  | .ldyAbx b1 b2 => .abx b1 b2
  | .staZp0 b1 => .zp0 b1
  | .staZpx b1 => .zpx b1
  | .staAbs b1 b2 => .abs b1 b2
  | .staAbx b1 b2 => .abx b1 b2
  | .staAby b1 b2 => .aby b1 b2
  | .staIzx b1 => .izx b1
  | .staIzy b1 => .izy b1
  | .stxZp0 b1 => .zp0 b1
  | .stxZpy b1 => .zpy b1
  | .stxAbs b1 b2 => .abs b1 b2
  | .styZp0 b1 => .zp0 b1
  | .styZpx b1 => .zpx b1
  | .styAbs b1 b2 => .abs b1 b2
  | .tax => .imp
  | .tay => .imp
  | .txa => .imp
  | .tya => .imp
  | .tsx => .imp
  | .txs => .imp
  | .adcImm b1 => .imm b1
  | .adcZp0 b1 => .zp0 b1
  | .adcZpx b1 => .zpx b1
  | .adcAbs b1 b2 => .abs b1 b2
  | .adcAbx b1 b2 => .abx b1 b2
  | .adcAby b1 b2 => .aby b1 b2
  | .adcIzx b1 => .izx b1
  | .adcIzy b1 => .izy b1
  | .sbcImm b1 => .imm b1
  | .sbcZp0 b1 => .zp0 b1
  | .sbcZpx b1 => .zpx b1
  | .sbcAbs b1 b2 => .abs b1 b2
  | .sbcAbx b1 b2 => .abx b1 b2
  | .sbcAby b1 b2 => .aby b1 b2
  | .sbcIzx b1 => .izx b1
  | .sbcIzy b1 => .izy b1
  | .andImm b1 => .imm b1
  | .andZp0 b1 => .zp0 b1
  | .andZpx b1 => .zpx b1
  | .andAbs b1 b2 => .abs b1 b2
  | .andAbx b1 b2 => .abx b1 b2
  | .andAby b1 b2 => .aby b1 b2
  | .andIzx b1 => .izx b1
  | .andIzy b1 => .izy b1
  | .oraImm b1 => .imm b1
  | .oraZp0 b1 => .zp0 b1
  | .oraZpx b1 => .zpx b1
  | .oraAbs b1 b2 => .abs b1 b2
  | .oraAbx b1 b2 => .abx b1 b2
  | .oraAby b1 b2 => .aby b1 b2
  | .oraIzx b1 => .izx b1
  | .oraIzy b1 => .izy b1
  | .eorImm b1 => .imm b1
  | .eorZp0 b1 => .zp0 b1
  | .eorZpx b1 => .zpx b1
  | .eorAbs b1 b2 => .abs b1 b2
  | .eorAbx b1 b2 => .abx b1 b2
  | .eorAby b1 b2 => .aby b1 b2
  | .eorIzx b1 => .izx b1
  | .eorIzy b1 => .izy b1
  | .cmpImm b1 => .imm b1
  | .cmpZp0 b1 => .zp0 b1
  | .cmpZpx b1 => .zpx b1
  | .cmpAbs b1 b2 => .abs b1 b2
  | .cmpAbx b1 b2 => .abx b1 b2
  | .cmpAby b1 b2 => .aby b1 b2
  | .cmpIzx b1 => .izx b1
  | .cmpIzy b1 => .izy b1
  | .cpxImm b1 => .imm b1
  | .cpxZp0 b1 => .zp0 b1
  | .cpxAbs b1 b2 => .abs b1 b2
  | .cpyImm b1 => .imm b1
  | .cpyZp0 b1 => .zp0 b1
  | .cpyAbs b1 b2 => .abs b1 b2
  | .bitZp0 b1 => .zp0 b1
  | .bitAbs b1 b2 => .abs b1 b2
  | .incZp0 b1 => .zp0 b1
  | .incZpx b1 => .zpx b1
  | .incAbs b1 b2 => .abs b1 b2
  | .incAbx b1 b2 => .abx b1 b2
  | .decZp0 b1 => .zp0 b1
  | .decZpx b1 => .zpx b1
  | .decAbs b1 b2 => .abs b1 b2
  | .decAbx b1 b2 => .abx b1 b2
  | .inx => .imp
  | .iny => .imp
  | .dex => .imp
  | .dey => .imp
  | .aslAcc => .acc
  | .aslZp0 b1 => .zp0 b1
  | .aslZpx b1 => .zpx b1
  | .aslAbs b1 b2 => .abs b1 b2
  | .aslAbx b1 b2 => .abx b1 b2
  | .lsrAcc => .acc
  | .lsrZp0 b1 => .zp0 b1
  | .lsrZpx b1 => .zpx b1
  | .lsrAbs b1 b2 => .abs b1 b2
  | .lsrAbx b1 b2 => .abx b1 b2
  | .rolAcc => .acc
  | .rolZp0 b1 => .zp0 b1
  | .rolZpx b1 => .zpx b1
  | .rolAbs b1 b2 => .abs b1 b2
  | .rolAbx b1 b2 => .abx b1 b2
  | .rorAcc => .acc
  | .rorZp0 b1 => .zp0 b1
  | .rorZpx b1 => .zpx b1
  | .rorAbs b1 b2 => .abs b1 b2
  | .rorAbx b1 b2 => .abx b1 b2
  | .bcc b1 => .rel b1
  | .bcs b1 => .rel b1
  | .beq b1 => .rel b1
  | .bne b1 => .rel b1
  | .bmi b1 => .rel b1
  | .bpl b1 => .rel b1
  | .bvc b1 => .rel b1
  | .bvs b1 => .rel b1
  | .jmpAbs b1 b2 => .abs b1 b2
  | .jmpInd b1 b2 => .ind b1 b2
  | .jsrAbs b1 b2 => .abs b1 b2
  | .rts => .imp
  | .pha => .imp
  | .pla => .imp
  | .php => .imp
  | .plp => .imp
  | .clc => .imp
  | .sec => .imp
  | .cli => .imp
  | .sei => .imp
  | .cld => .imp
  | .sed => .imp
  | .clv => .imp
  | .nop => .imp
  | .brk => .imp
  | .rti => .imp
  | .ill _ => .imp

/-- The length in bytes of a format (R92). -/
def Operand.length : Operand → Nat
  | .imp | .acc => 1
  | .imm _ | .zp0 _ | .zpx _ | .zpy _ | .izx _ | .izy _ | .rel _ => 2
  | .abs .. | .abx .. | .aby .. | .ind .. => 3

/-- The length in bytes of an instruction (R90, R92). -/
def Instr.length (i : Instr) : Nat := i.operand.length

/-- The operand bytes in memory order, low byte first (R91). -/
def Operand.bytes : Operand → List Byte
  | .imp | .acc => []
  | .imm b1 | .zp0 b1 | .zpx b1 | .zpy b1 | .izx b1 | .izy b1 | .rel b1 => [b1]
  | .abs b1 b2 | .abx b1 b2 | .aby b1 b2 | .ind b1 b2 => [b1, b2]

/-- How many operand bytes follow an opcode byte (R90: "the opcode alone selects the instruction, its addressing mode
and hence its length"). -/
def operandCount (opcode : Byte) : Nat := (instrOf opcode 0 0).length - 1

/-- Why bytes do not decode: there are too few of them. No byte is rejected (R96). -/
inductive DecodeError where
  /-- there is no opcode byte. -/
  | noOpcode
  /-- the format of the opcode needs more operand bytes than there are. -/
  | missingOperand (opcode : Byte)
  deriving DecidableEq, Repr

/-- Decoding: the first instruction of a list of bytes, with the bytes after it (R96). -/
def decode : List Byte → Except DecodeError (Instr × List Byte)
  | [] => .error .noOpcode
  | op :: rest =>
    if rest.length < operandCount op then .error (.missingOperand op)
    else .ok (instrOf op (rest.getD 0 0) (rest.getD 1 0), rest.drop (operandCount op))

/-- The base cycle count of an instruction (R93, R95 and the Encoding lines of files 41 to 45). -/
def Instr.baseCycles : Instr → Nat
  | .ldaImm .. | .ldxImm .. | .ldyImm .. | .tax | .tay => 2
  | .txa | .tya | .tsx | .txs | .adcImm .. => 2
  | .sbcImm .. | .andImm .. | .oraImm .. | .eorImm .. | .cmpImm .. => 2
  | .cpxImm .. | .cpyImm .. | .inx | .iny | .dex => 2
  | .dey | .aslAcc | .lsrAcc | .rolAcc | .rorAcc => 2
  | .bcc .. | .bcs .. | .beq .. | .bne .. | .bmi .. => 2
  | .bpl .. | .bvc .. | .bvs .. | .clc | .sec => 2
  | .cli | .sei | .cld | .sed | .clv => 2
  | .nop => 2
  | .ldaZp0 .. | .ldxZp0 .. | .ldyZp0 .. | .staZp0 .. | .stxZp0 .. => 3
  | .styZp0 .. | .adcZp0 .. | .sbcZp0 .. | .andZp0 .. | .oraZp0 .. => 3
  | .eorZp0 .. | .cmpZp0 .. | .cpxZp0 .. | .cpyZp0 .. | .bitZp0 .. => 3
  | .jmpAbs .. | .pha | .php => 3
  | .ldaZpx .. | .ldaAbs .. | .ldaAbx .. | .ldaAby .. | .ldxZpy .. => 4
  | .ldxAbs .. | .ldxAby .. | .ldyZpx .. | .ldyAbs .. | .ldyAbx .. => 4
  | .staZpx .. | .staAbs .. | .stxZpy .. | .stxAbs .. | .styZpx .. => 4
  | .styAbs .. | .adcZpx .. | .adcAbs .. | .adcAbx .. | .adcAby .. => 4
  | .sbcZpx .. | .sbcAbs .. | .sbcAbx .. | .sbcAby .. | .andZpx .. => 4
  | .andAbs .. | .andAbx .. | .andAby .. | .oraZpx .. | .oraAbs .. => 4
  | .oraAbx .. | .oraAby .. | .eorZpx .. | .eorAbs .. | .eorAbx .. => 4
  | .eorAby .. | .cmpZpx .. | .cmpAbs .. | .cmpAbx .. | .cmpAby .. => 4
  | .cpxAbs .. | .cpyAbs .. | .bitAbs .. | .pla | .plp => 4
  | .ldaIzy .. | .staAbx .. | .staAby .. | .adcIzy .. | .sbcIzy .. => 5
  | .andIzy .. | .oraIzy .. | .eorIzy .. | .cmpIzy .. | .incZp0 .. => 5
  | .decZp0 .. | .aslZp0 .. | .lsrZp0 .. | .rolZp0 .. | .rorZp0 .. => 5
  | .jmpInd .. => 5
  | .ldaIzx .. | .staIzx .. | .staIzy .. | .adcIzx .. | .sbcIzx .. => 6
  | .andIzx .. | .oraIzx .. | .eorIzx .. | .cmpIzx .. | .incZpx .. => 6
  | .incAbs .. | .decZpx .. | .decAbs .. | .aslZpx .. | .aslAbs .. => 6
  | .lsrZpx .. | .lsrAbs .. | .rolZpx .. | .rolAbs .. | .rorZpx .. => 6
  | .rorAbs .. | .jsrAbs .. | .rts | .rti => 6
  | .incAbx .. | .decAbx .. | .aslAbx .. | .lsrAbx .. | .rolAbx .. => 7
  | .rorAbx .. | .brk => 7
  | .ill _ => 2

/-- The page-cross flag `pgx` (R111): true exactly for the 23 opcodes marked `+` in R93, "the ABX, ABY and IZY forms of
`ADC AND CMP EOR LDA ORA SBC` (21 cells) and `LDX` ABY, `LDY` ABX (2 cells), and nothing else". -/
def Instr.pgx (i : Instr) : Bool :=
  match i.mnemonic, i.operand with
  | .adc, .abx .. | .adc, .aby .. | .adc, .izy _ | .and, .abx .. | .and, .aby .. | .and, .izy _
  | .cmp, .abx .. | .cmp, .aby .. | .cmp, .izy _ | .eor, .abx .. | .eor, .aby .. | .eor, .izy _
  | .lda, .abx .. | .lda, .aby .. | .lda, .izy _ | .ora, .abx .. | .ora, .aby .. | .ora, .izy _
  | .sbc, .abx .. | .sbc, .aby .. | .sbc, .izy _ | .ldx, .aby .. | .ldy, .abx .. => true
  | _, _ => false

/-- The opcode byte of an instruction (R95). -/
def Instr.opcode : Instr → Byte
  | .ldaImm .. => 0xA9
  | .ldaZp0 .. => 0xA5
  | .ldaZpx .. => 0xB5
  | .ldaAbs .. => 0xAD
  | .ldaAbx .. => 0xBD
  | .ldaAby .. => 0xB9
  | .ldaIzx .. => 0xA1
  | .ldaIzy .. => 0xB1
  | .ldxImm .. => 0xA2
  | .ldxZp0 .. => 0xA6
  | .ldxZpy .. => 0xB6
  | .ldxAbs .. => 0xAE
  | .ldxAby .. => 0xBE
  | .ldyImm .. => 0xA0
  | .ldyZp0 .. => 0xA4
  | .ldyZpx .. => 0xB4
  | .ldyAbs .. => 0xAC
  | .ldyAbx .. => 0xBC
  | .staZp0 .. => 0x85
  | .staZpx .. => 0x95
  | .staAbs .. => 0x8D
  | .staAbx .. => 0x9D
  | .staAby .. => 0x99
  | .staIzx .. => 0x81
  | .staIzy .. => 0x91
  | .stxZp0 .. => 0x86
  | .stxZpy .. => 0x96
  | .stxAbs .. => 0x8E
  | .styZp0 .. => 0x84
  | .styZpx .. => 0x94
  | .styAbs .. => 0x8C
  | .tax => 0xAA
  | .tay => 0xA8
  | .txa => 0x8A
  | .tya => 0x98
  | .tsx => 0xBA
  | .txs => 0x9A
  | .adcImm .. => 0x69
  | .adcZp0 .. => 0x65
  | .adcZpx .. => 0x75
  | .adcAbs .. => 0x6D
  | .adcAbx .. => 0x7D
  | .adcAby .. => 0x79
  | .adcIzx .. => 0x61
  | .adcIzy .. => 0x71
  | .sbcImm .. => 0xE9
  | .sbcZp0 .. => 0xE5
  | .sbcZpx .. => 0xF5
  | .sbcAbs .. => 0xED
  | .sbcAbx .. => 0xFD
  | .sbcAby .. => 0xF9
  | .sbcIzx .. => 0xE1
  | .sbcIzy .. => 0xF1
  | .andImm .. => 0x29
  | .andZp0 .. => 0x25
  | .andZpx .. => 0x35
  | .andAbs .. => 0x2D
  | .andAbx .. => 0x3D
  | .andAby .. => 0x39
  | .andIzx .. => 0x21
  | .andIzy .. => 0x31
  | .oraImm .. => 0x09
  | .oraZp0 .. => 0x05
  | .oraZpx .. => 0x15
  | .oraAbs .. => 0x0D
  | .oraAbx .. => 0x1D
  | .oraAby .. => 0x19
  | .oraIzx .. => 0x01
  | .oraIzy .. => 0x11
  | .eorImm .. => 0x49
  | .eorZp0 .. => 0x45
  | .eorZpx .. => 0x55
  | .eorAbs .. => 0x4D
  | .eorAbx .. => 0x5D
  | .eorAby .. => 0x59
  | .eorIzx .. => 0x41
  | .eorIzy .. => 0x51
  | .cmpImm .. => 0xC9
  | .cmpZp0 .. => 0xC5
  | .cmpZpx .. => 0xD5
  | .cmpAbs .. => 0xCD
  | .cmpAbx .. => 0xDD
  | .cmpAby .. => 0xD9
  | .cmpIzx .. => 0xC1
  | .cmpIzy .. => 0xD1
  | .cpxImm .. => 0xE0
  | .cpxZp0 .. => 0xE4
  | .cpxAbs .. => 0xEC
  | .cpyImm .. => 0xC0
  | .cpyZp0 .. => 0xC4
  | .cpyAbs .. => 0xCC
  | .bitZp0 .. => 0x24
  | .bitAbs .. => 0x2C
  | .incZp0 .. => 0xE6
  | .incZpx .. => 0xF6
  | .incAbs .. => 0xEE
  | .incAbx .. => 0xFE
  | .decZp0 .. => 0xC6
  | .decZpx .. => 0xD6
  | .decAbs .. => 0xCE
  | .decAbx .. => 0xDE
  | .inx => 0xE8
  | .iny => 0xC8
  | .dex => 0xCA
  | .dey => 0x88
  | .aslAcc => 0x0A
  | .aslZp0 .. => 0x06
  | .aslZpx .. => 0x16
  | .aslAbs .. => 0x0E
  | .aslAbx .. => 0x1E
  | .lsrAcc => 0x4A
  | .lsrZp0 .. => 0x46
  | .lsrZpx .. => 0x56
  | .lsrAbs .. => 0x4E
  | .lsrAbx .. => 0x5E
  | .rolAcc => 0x2A
  | .rolZp0 .. => 0x26
  | .rolZpx .. => 0x36
  | .rolAbs .. => 0x2E
  | .rolAbx .. => 0x3E
  | .rorAcc => 0x6A
  | .rorZp0 .. => 0x66
  | .rorZpx .. => 0x76
  | .rorAbs .. => 0x6E
  | .rorAbx .. => 0x7E
  | .bcc .. => 0x90
  | .bcs .. => 0xB0
  | .beq .. => 0xF0
  | .bne .. => 0xD0
  | .bmi .. => 0x30
  | .bpl .. => 0x10
  | .bvc .. => 0x50
  | .bvs .. => 0x70
  | .jmpAbs .. => 0x4C
  | .jmpInd .. => 0x6C
  | .jsrAbs .. => 0x20
  | .rts => 0x60
  | .pha => 0x48
  | .pla => 0x68
  | .php => 0x08
  | .plp => 0x28
  | .clc => 0x18
  | .sec => 0x38
  | .cli => 0x58
  | .sei => 0x78
  | .cld => 0xD8
  | .sed => 0xF8
  | .clv => 0xB8
  | .nop => 0xEA
  | .brk => 0x00
  | .rti => 0x40
  | .ill opcode => opcode

/-- Encoding: the bytes of an instruction in memory order (R90, R91). -/
def encode (i : Instr) : List Byte := i.opcode :: i.operand.bytes

/-- The instruction the decoder reads from bits numbered as spec/opcode_table.json numbers them: byte 0 is bits 7..0,
byte 1 bits 15..8, byte 2 bits 23..16; bits at `nbits` and above are 0. -/
def decodeTableWord (nbits w : Nat) : Option Instr :=
  let v := w % 2 ^ nbits
  match decode [BitVec.ofNat 8 v, BitVec.ofNat 8 (v / 2 ^ 8), BitVec.ofNat 8 (v / 2 ^ 16)] with
  | .ok (i, _) => some i
  | .error _ => none

end Sys2Proof
end

