-- ==== Sys2Proof/Machine/Fetch.lean ====
section
/-! DEFINITION. Reading an instruction's bytes (spec/30_encoding.md R90, R91, R96; spec/40_addressing_modes.md R110), and
placing bytes where the next instruction is read from. -/

namespace Sys2Proof.Machine

/-- Read `n` instruction bytes by `BusRead`, in ascending address order, `PC` advancing by one after each (R96). -/
def readCode : Nat → State → List Byte × State
  | 0, s => ([], s)
  | n + 1, s =>
    let r := busRead s.pc s
    let t := readCode n { r.2 with pc := s.pc + 1 }
    (r.1 :: t.1, t.2)

/-- Fetch the instruction at `PC` (R110): its opcode byte, then as many operand bytes as the opcode's format has. The
state is the one after these reads and their side effects, with `PC` after the instruction. -/
def fetch (s : State) : Instr × State :=
  let r := busRead s.pc s
  let t := readCode (operandCount r.1) { r.2 with pc := s.pc + 1 }
  (instrOf r.1 (t.1.getD 0 0) (t.1.getD 1 0), t.2)

/-- An address whose read returns a stored byte: RAM, PRG-RAM or PRG-ROM. -/
def holdsCode (s : State) (a : Addr) : Bool :=
  decide (a.toNat ≤ 0x1FFF) || (s.cart.cpuRead a).isSome

/-- Make the byte that a CPU read of a code-holding address returns `v`, ROM included. No instruction does this: it
stands for what is loaded from outside. -/
def placeByte (a : Addr) (v : Byte) (s : State) : State :=
  if 0x8000 ≤ a.toNat then { s with cart.prg := Memory.write s.cart.prg (s.cart.prgIndex a) v }
  else if a.toNat ≤ 0x1FFF then { s with ram := Memory.write s.ram (a.toNat % 0x800) v }
  else
    match s.cart.mapper with
    | .mmc1 r =>
      if 0x6000 ≤ a.toNat then
        { s with cart.mapper := .mmc1 { r with prgRam := Memory.write r.prgRam (a.toNat - 0x6000) v } }
      else s
    | .nrom | .unrom _ | .cnrom _ => s

/-- Where the next instruction is placed: at `PC` if the three bytes from there on can hold code, else at 0x0000. -/
def codeHome (s : State) : Addr :=
  if holdsCode s s.pc && holdsCode s (s.pc + 1) && holdsCode s (s.pc + 2) then s.pc else 0x0000

/-- Place up to three bytes, given as a number whose low byte is the first, where the next instruction is read. -/
def placeWord (w : Nat) (s : State) : State :=
  let home := codeHome s
  let s1 := placeByte home (BitVec.ofNat 8 w) s
  let s2 := placeByte (home + 1) (BitVec.ofNat 8 (w / 2 ^ 8)) s1
  let s3 := placeByte (home + 2) (BitVec.ofNat 8 (w / 2 ^ 16)) s2
  { s3 with pc := home }

/-- Nothing stands before the next instruction: no outstanding stall, no pending NMI, no fault (R326). -/
def readyToFetch (s : State) : State := { s with stallCycles := 0, nmiPending := false, fault := none }

end Sys2Proof.Machine
end

