-- ==== Sys2Proof/Machine/Step.lean ====
section
/-! DEFINITION. One machine step (spec/70_reset_and_hazards.md R326; spec/60_exceptions.md R306): a fault ends the run, else
a stall, else NMI entry, else one instruction; then the PPU catches up. `withFetchWord` places an instruction. -/

namespace Sys2Proof.Machine

/-- The PPU catches up after a CPU action that gave a next state; a stop stays a stop. -/
def afterAction (before : State) (outcome : Host.Outcome State Fault Refusal) : Host.Outcome State Fault Refusal :=
  match outcome with
  | .next after => .next (catchUp before after)
  | .fault r => .fault r
  | .refused r => .refused r

/-- The CPU action of a machine step (60 R306): stall, then NMI, then instruction. -/
def cpuAction (s : State) : Host.Outcome State Fault Refusal :=
  if s.stallCycles ≠ 0 then .next (serveStall s)
  else if s.nmiPending = true then .next (nmiEntry s)
  else exec (fetch s).1 (fetch s).2

/-- `MachineStep()` (R326). A faulted machine has no step (60 R301); a state whose cartridge no load yields has none
either (48 R271). -/
def step (s : State) : Host.Outcome State Fault Refusal :=
  match s.fault with
  | some r => .fault r
  | none => if s.cart.inRange = true then afterAction s (cpuAction s) else .refused .noSuchCartridge

/-- `s` with the instruction whose bits are `w`, numbered as spec/opcode_table.json numbers them, placed where `step`
reads its next instruction, and nothing standing before it (log entry 5). -/
def State.withFetchWord (s : State) (nbits w : Nat) : State := placeWord (w % 2 ^ nbits) (readyToFetch s)

end Sys2Proof.Machine
end

