-- ==== Sys2Proof/Machine/Reset.lean ====
section
/-! DEFINITION. The reset procedure (spec/70_reset_and_hazards.md R320 to R322) for any parameters and any cartridge. -/

namespace Sys2Proof.Machine

/-- Step 1 of `Reset()`: "every piece of state takes the reset value of rule R322 (mapper state included)". `PC` is the
subject of step 2 and `stall_cycles` of step 3. -/
def initialState (p : Params) (c : Cartridge) : State where
  a := 0x00
  x := 0x00
  y := 0x00
  sp := 0xFD
  pc := 0x0000
  p := 0x24
  nmiPending := false
  stallCycles := 0
  cpuCycles := 0
  fault := none
  ram := p.initRam
  ppu := Ppu.reset p.initVram p.initOam
  pads := Controllers.reset
  cart := c.afterReset p
  params := p

/-- `Reset()` (R320) of a machine with parameters `p` and cartridge `c`: the initial state, then `PC <- Read16(0xFFFC)`
through the reset-state banking, then `stall_cycles <- RESET_CYCLES` (R321). -/
def machineReset (p : Params) (c : Cartridge) : State :=
  let r := read16 0xFFFC (initialState p c)
  { r.2 with pc := r.1, stallCycles := p.resetCycles }

end Sys2Proof.Machine
end

