-- ==== Sys2Proof/Machine/Console.lean ====
section
/-! DEFINITION. The host's operations (spec/70_reset_and_hazards.md R340, R341; spec/20_memory.md R60). The host acts only
between machine steps (decision D37). -/

namespace Sys2Proof.Machine

/-- `LoadROM` (R340): load the image, then reset; or the reason there is no machine. -/
def loadRom (p : Params) (bytes : List Byte) : Except LoadError State :=
  match loadImage p bytes with
  | .ok c => .ok (machineReset p c)
  | .error e => .error e

/-- `HardReset` (R340; 10_state.md R42). -/
def hardReset (s : State) : State := machineReset s.params s.cart

/-- `StepFrame` with at most the given number of steps: repeat the machine step until `frame_complete`, then clear it. -/
def stepFrameWithin : Nat → State → Host.Outcome State Fault Refusal
  | 0, _ => .refused .frameNotCompleted
  | n + 1, s =>
    match step s with
    | .next t => if t.ppu.frameComplete then .next { t with ppu.frameComplete := false } else stepFrameWithin n t
    | .fault r => .fault r
    | .refused r => .refused r

/-- A frame is 341 * 262 clocks, and of two steps in a row one has at least one clock, so twice as many steps are enough
(R340: "guaranteed to fire within 341×262 PPU clocks"). -/
def frameStepBound : Nat := 2 * (341 * 262)

/-- `StepFrame` (R340). -/
def stepFrame (s : State) : Host.Outcome State Fault Refusal := stepFrameWithin frameStepBound s

/-- `GetFrameBuffer` (R340; 47_ppu_rendering.md R262): row-major, each colour index through `PALETTE_RGB`. -/
def getFrameBuffer (s : State) : List Rgb :=
  (List.range (240 * 256)).map fun k => Config.paletteRgb (Memory.read s.ppu.framebuffer k)

/-- `GetFrameCount` (R340). -/
def getFrameCount (s : State) : Nat := s.ppu.frameCount

/-- The buttons after `SetButtonPressed` (20_memory.md R60). -/
def Pad.press (mask : Byte) (pressed : Bool) (q : Pad) : Pad :=
  { q with buttons := if pressed then q.buttons ||| mask else q.buttons &&& ~~~mask }

/-- `SetButtonPressed(k, mask, pressed)` (20_memory.md R60). -/
def setButtonPressed (k : Port) (mask : Byte) (pressed : Bool) (s : State) : State :=
  match k with
  | .port0 => { s with pads.pad0 := s.pads.pad0.press mask pressed }
  | .port1 => { s with pads.pad1 := s.pads.pad1.press mask pressed }

/-- Press or release one named button, through its mask in `BUTTON_BIT_ORDER` (00_scope.md R4; 20_memory.md R60). -/
def setButton (k : Port) (button : Button) (pressed : Bool) (s : State) : State :=
  setButtonPressed k button.mask pressed s

/-- The machine is settled at `a` (R341): a `JMP` to itself, nothing pending, NMIs off. -/
def settledAt (a : Addr) (s : State) : Bool :=
  decide (s.pc = a) && decide ((busRead a s).1 = 0x4C) && decide ((busRead (a + 1) s).1 = loByte a) &&
  decide ((busRead (a + 2) s).1 = hiByte a) && decide (s.stallCycles = 0) && !s.nmiPending && !s.ppu.nmiEnable

end Sys2Proof.Machine
end

