-- ==== Sys2Proof/Safety.lean ====
section
/-! DEFINITION. What counts as a legal state and as a safe run, in the terms the claims use. The parts of `State.Inv` are
the invariants the spec states (10_state.md R15, R22 to R41; 60_exceptions.md R301, R302; 48_cartridge_mappers.md R295). -/

namespace Sys2Proof.Machine

/-- 10_state.md R15: bit 5 of `P` is 1 and bit 4 is 0. -/
abbrev State.StatusLegal (s : State) : Prop := s.flag .unused = true ∧ s.flag .breakBit = false

/-- 10_state.md R28: the pixel counters are in range. -/
abbrev State.PositionLegal (s : State) : Prop := s.ppu.pixelX ≤ 340 ∧ s.ppu.pixelY ≤ 261

/-- The memories of the bus and the PPU are canonical and hold no cell beyond their sizes (10_state.md R31 to R34). -/
abbrev State.MemoryLegal (s : State) : Prop :=
  Memory.wf 2048 s.ram = true ∧ Memory.wf 16384 s.ppu.vram = true ∧ Memory.wf 256 s.ppu.oam = true ∧
  Memory.wf 61440 s.ppu.framebuffer = true

/-- The PRG-RAM of a mapper is canonical, 8192 bytes (10_state.md R39). -/
def Mapper.prgRamLegal : Mapper → Bool
  | .mmc1 r => Memory.wf 8192 r.prgRam
  | .nrom | .unrom _ | .cnrom _ => true

/-- The cartridge is one that a load yields and steps keep: fields in range, memories canonical and of their sizes
(10_state.md R36 to R41; 60_exceptions.md R302). -/
abbrev Cartridge.Legal (c : Cartridge) : Prop :=
  c.inRange = true ∧ Memory.wf c.prgSize c.prg = true ∧ Memory.wf c.chrSize c.chr = true ∧
  c.mapper.prgRamLegal = true

/-- The initial memories of the parameters are canonical and of their sizes (00_scope.md R4). -/
abbrev ParamsLegal (p : Params) : Prop :=
  Memory.wf 2048 p.initRam = true ∧ Memory.wf 16384 p.initVram = true ∧ Memory.wf 256 p.initOam = true ∧
  Memory.wf 8192 p.initPrgRam = true ∧ Memory.wf 8192 p.initChrRam = true

/-- 46_ppu_registers_and_timing.md R223: "`vblank == 1` with `nmi_fired == 0` implies the old `nmi_enable` was 0". -/
abbrev State.NmiLatchLegal (s : State) : Prop :=
  s.ppu.vblank = true → s.ppu.nmiEnable = true → s.ppu.nmiFired = true

/-- 60_exceptions.md R301: "Under the `nop` policy the fault never arises". -/
abbrev State.FaultLegal (s : State) : Prop := s.params.illegalOpcodePolicy = .nop → s.fault = none

/-- The invariant of the machine. -/
abbrev State.Inv (s : State) : Prop :=
  s.StatusLegal ∧ s.PositionLegal ∧ s.MemoryLegal ∧ s.cart.Legal ∧ ParamsLegal s.params ∧ s.NmiLatchLegal ∧ s.FaultLegal

/-- Nothing stands between this state and the execution of one instruction (70_reset_and_hazards.md R326). -/
abbrev State.Ready (s : State) : Prop :=
  s.fault = none ∧ s.cart.inRange = true ∧ s.stallCycles = 0 ∧ s.nmiPending = false

/-- `n` steps from `s` end in a state, and it is not faulted: "a faulted state is never final, ... and refutes any claim
that the program runs to its end" (60_exceptions.md R301). -/
def RunsSafely (n : Nat) (s : State) : Prop :=
  ∃ t : State, Host.Core.run Sys2Proof.core n s = .next t ∧ t.fault = none

/-- The opcode byte, the format with its operand bytes, the base cycles and the page-cross flag of an instruction are one of
the rows given (30_encoding.md R92, R93). -/
abbrev EncodedAs (i : Instr) (rows : Byte → Byte → List (Byte × Operand × Nat × Bool)) : Prop :=
  ∃ b1 b2 : Byte, (i.opcode, i.operand, i.baseCycles, i.pgx) ∈ rows b1 b2

/-- The rows of a mnemonic with the eight formats of `ADC`, in the order of R95, with the cycles of R150. -/
def eightFormats (imm zp0 zpx abs abx aby izx izy b1 b2 : Byte) : List (Byte × Operand × Nat × Bool) :=
  [ (imm, .imm b1, 2, false), (zp0, .zp0 b1, 3, false), (zpx, .zpx b1, 4, false), (abs, .abs b1 b2, 4, false),
    (abx, .abx b1 b2, 4, true), (aby, .aby b1 b2, 4, true), (izx, .izx b1, 6, false), (izy, .izy b1, 5, true) ]

/-- The rows of a shift or rotate, with the cycles of R170. -/
def shiftFormats (acc zp0 zpx abs abx b1 b2 : Byte) : List (Byte × Operand × Nat × Bool) :=
  [ (acc, .acc, 2, false), (zp0, .zp0 b1, 5, false), (zpx, .zpx b1, 6, false), (abs, .abs b1 b2, 6, false),
    (abx, .abx b1 b2, 7, false) ]

/-- The flags of `t` are those of `s`, but for the ones listed with their new values (10_state.md R14). -/
abbrev FlagsAfter (s t : State) (changes : List (Flag × Bool)) : Prop :=
  ∀ f : Flag, t.flag f = (changes.lookup f).getD (s.flag f)

/-- Every byte that a bus access or a PPU access can read from a memory is the same in both states: RAM, VRAM, OAM, and
the cartridge's memories with the bank registers that select among them. -/
abbrev SameMemories (s t : State) : Prop :=
  (∀ k : Nat, Memory.read t.ram k = Memory.read s.ram k) ∧
  (∀ k : Nat, Memory.read t.ppu.vram k = Memory.read s.ppu.vram k) ∧
  (∀ k : Nat, Memory.read t.ppu.oam k = Memory.read s.ppu.oam k) ∧
  t.cart = s.cart

/-- What no read of the bus changes outside the CPU: everything but `vblank`, `w`, `data_buffer`, `vram_addr` and the
controller ports (20_memory.md R64). -/
abbrev SameButReadEffects (s t : State) : Prop :=
  t.nmiPending = s.nmiPending ∧ t.stallCycles = s.stallCycles ∧ t.fault = s.fault ∧ t.params = s.params ∧
  t.pads.pad0.buttons = s.pads.pad0.buttons ∧ t.pads.pad1.buttons = s.pads.pad1.buttons ∧
  t.pads.strobe = s.pads.strobe ∧
  t.ppu =
    { s.ppu with
      vblank := t.ppu.vblank
      w := t.ppu.w
      dataBuffer := t.ppu.dataBuffer
      vramAddr := t.ppu.vramAddr }

/-- The bytes of `n` reads of one bus address, one after the other. -/
def readMany (a : Addr) : Nat → State → List Byte
  | 0, _ => []
  | n + 1, s => (busRead a s).1 :: readMany a n (busRead a s).2

end Sys2Proof.Machine
end

