-- ==== Sys2Proof/Certificates/Slice0/Obligations.lean ====
section
/-! DEFINITION. The statements for the provers, by file of the spec: encoding, addressing modes, the instructions by
family, the Bus and its devices, the PPU, the mappers, interrupts and faults, reset and the machine step. -/

open Sys2Proof Sys2Proof.Machine

/-! ### Encoding -/

/-- Decoding the encoding of a well-formed instruction gives that instruction and leaves the bytes after it
(30_encoding.md R90, R91, R92, R96): no operand bit is dropped. All 152 constructors. -/
def Obligations.DecodeOfEncode : Prop :=
  ∀ (i : Instr) (rest : List Byte), i.wellFormed = true → decode (encode i ++ rest) = .ok (i, rest)

/-- Decoding is total: any three bytes start with an instruction, it is well formed, and encoding it gives the bytes it
was read from (30_encoding.md R96, R92). -/
def Obligations.DecodeIsTotal : Prop :=
  ∀ bytes : List Byte, 3 ≤ bytes.length →
    ∃ (i : Instr) (rest : List Byte),
      decode bytes = .ok (i, rest) ∧ i.wellFormed = true ∧ encode i ++ rest = bytes ∧
        (encode i).length = i.length ∧ 1 ≤ i.length ∧ i.length ≤ 3

/-- Words written out from the opcode map R93, at least one of each family, decode to the instructions they stand for. -/
def Obligations.SampleWords : Prop :=
  decode [0xA9, 0x05] = .ok (.ldaImm 0x05, []) ∧
  decode [0x69, 0x03] = .ok (.adcImm 0x03, []) ∧
  decode [0x9D, 0x34, 0x12] = .ok (.staAbx 0x34 0x12, []) ∧
  decode [0x9A] = .ok (.txs, []) ∧
  decode [0x24, 0x10] = .ok (.bitZp0 0x10, []) ∧
  decode [0x6A] = .ok (.rorAcc, []) ∧
  decode [0xD0, 0xFB] = .ok (.bne 0xFB, []) ∧
  decode [0x6C, 0xFF, 0x02] = .ok (.jmpInd 0xFF 0x02, []) ∧
  decode [0x20, 0x10, 0x80] = .ok (.jsrAbs 0x10 0x80, []) ∧
  decode [0x28] = .ok (.plp, []) ∧
  decode [0x00, 0x77] = .ok (.brk, [0x77]) ∧
  decode [0x02] = .ok (.ill 0x02, [])

/-- The undefined opcodes are exactly the bytes that R94 lists: an opcode byte gives `ill` (of itself) if and only if its low
nibble is 3, 7, B or F or it is in one of the four lists; there are 105 of them. -/
def Obligations.UndefinedOpcodes : Prop :=
  (∀ op b1 b2 : Byte,
    (instrOf op b1 b2 = .ill op ↔
      op.toNat % 16 ∈ [0x3, 0x7, 0xB, 0xF] ∨
      op ∈ ([0x02, 0x12, 0x22, 0x32, 0x42, 0x52, 0x62, 0x72, 0x92, 0xB2, 0xD2, 0xF2, 0x82, 0xC2, 0xE2] : List Byte) ∨
      op ∈ ([0x04, 0x0C, 0x14, 0x1C, 0x34, 0x3C, 0x44, 0x54, 0x5C, 0x64, 0x74, 0x7C, 0x80, 0xD4, 0xDC, 0xF4,
        0xFC] : List Byte) ∨
      op ∈ ([0x1A, 0x3A, 0x5A, 0x7A, 0xDA, 0xFA] : List Byte) ∨
      op ∈ ([0x89, 0x9C, 0x9E] : List Byte)) ∧
    ((instrOf op b1 b2).mnemonic = .ill ↔ instrOf op b1 b2 = .ill op)) ∧
  (List.range 256).countP (fun n => isUndefinedOpcode (BitVec.ofNat 8 n)) = 105

/-! ### Addressing modes -/

/-- The modes that read no pointer (R115 to R120): the effective address, the page-cross report, and no state change. Sums
wrap within the zero page in ZPX and ZPY and modulo 65536 in ABX and ABY. The operand fetch (R125) is `A` in ACC and
exactly one read of `ea` in every memory format; the result write (R126) is `A` in ACC and exactly one write of `ea` in every
other. The model's choice, log entry 4 (DEDUCED), and no rule of the spec: that IMP, ACC and REL answer the address 0,
which nothing uses (the spec gives these modes no effective address), that IMM answers `PC - 1`, since all bytes of an
instruction are read before it runs, and that the operand of IMM is therefore the byte already read. -/
def Obligations.DirectModes : Prop :=
  ∀ (b1 b2 v : Byte) (ea : Addr) (o : Operand) (s : State),
    locate .imp s = (⟨0, false⟩, s) ∧ locate .acc s = (⟨0, false⟩, s) ∧ locate (.rel b1) s = (⟨0, false⟩, s) ∧
    locate (.imm b1) s = (⟨s.pc - 1, false⟩, s) ∧
    locate (.zp0 b1) s = (⟨BitVec.ofNat 16 b1.toNat, false⟩, s) ∧
    locate (.zpx b1) s = (⟨BitVec.ofNat 16 ((b1.toNat + s.x.toNat) % 256), false⟩, s) ∧
    locate (.zpy b1) s = (⟨BitVec.ofNat 16 ((b1.toNat + s.y.toNat) % 256), false⟩, s) ∧
    locate (.abs b1 b2) s = (⟨BitVec.ofNat 16 (256 * b2.toNat + b1.toNat), false⟩, s) ∧
    (let ea := (256 * b2.toNat + b1.toNat + s.x.toNat) % 65536
     locate (.abx b1 b2) s = (⟨BitVec.ofNat 16 ea, decide (ea / 256 ≠ b2.toNat)⟩, s)) ∧
    (let ea := (256 * b2.toNat + b1.toNat + s.y.toNat) % 65536
     locate (.aby b1 b2) s = (⟨BitVec.ofNat 16 ea, decide (ea / 256 ≠ b2.toNat)⟩, s)) ∧
    operandByte .acc ea s = (s.a, s) ∧ operandByte (.imm b1) ea s = (b1, s) ∧
    (o ≠ .acc → (∀ b : Byte, o ≠ .imm b) → operandByte o ea s = busRead ea s) ∧
    writeBack .acc ea v s = { s with a := v } ∧ (o ≠ .acc → writeBack o ea v s = busWrite ea v s)

/-- The modes that read a pointer (R121, R122, R123), low byte first: the pointer's second byte wraps within the zero page
in IZX and IZY and within the page of the pointer in IND. The zero-page pointers and an IND pointer in RAM change no
state; any other IND pointer is two bus reads in that order. -/
def Obligations.PointerModes : Prop :=
  ∀ (b1 b2 : Byte) (s : State),
    (let p := (b1.toNat + s.x.toNat) % 256
     let ea := 256 * (Memory.read s.ram ((p + 1) % 256)).toNat + (Memory.read s.ram p).toNat
     locate (.izx b1) s = (⟨BitVec.ofNat 16 ea, false⟩, s)) ∧
    (let base := 256 * (Memory.read s.ram ((b1.toNat + 1) % 256)).toNat + (Memory.read s.ram b1.toNat).toNat
     let ea := (base + s.y.toNat) % 65536
     locate (.izy b1) s = (⟨BitVec.ofNat 16 ea, decide (ea / 256 ≠ base / 256)⟩, s)) ∧
    (let second := if b1 = 0xFF then 256 * b2.toNat else 256 * b2.toNat + b1.toNat + 1
     let lo := busRead (BitVec.ofNat 16 (256 * b2.toNat + b1.toNat)) s
     let hi := busRead (BitVec.ofNat 16 second) lo.2
     locate (.ind b1 b2) s = (⟨BitVec.ofNat 16 (256 * hi.1.toNat + lo.1.toNat), false⟩, hi.2) ∧
     (b2.toNat ≤ 0x1F →
       lo.1 = Memory.read s.ram ((256 * b2.toNat + b1.toNat) % 2048) ∧
       hi.1 = Memory.read s.ram (second % 2048) ∧ hi.2 = s))

/-! ### Loads, stores, transfers -/

/-- `LDA`, `LDX`, `LDY` (R130, R131, R132), all formats: the register takes the operand, Z and N follow it, the other
flags are unchanged, the base cycles are charged and one more where the table's `pgx` is set and the mode crossed a
page; the rest is the state after the mode's and the operand's reads. Constructors: `ldaImm` to `ldaIzy`, `ldxImm` to
`ldxAby`, `ldyImm` to `ldyAbx`. The first clause gives the rows of the opcode map (opcode, format, base cycles,
page-cross flag). -/
def Obligations.LoadRegisters : Prop :=
  (∀ i : Instr,
    (i.mnemonic = .lda → EncodedAs i (eightFormats 0xA9 0xA5 0xB5 0xAD 0xBD 0xB9 0xA1 0xB1)) ∧
    (i.mnemonic = .ldx → EncodedAs i (fun b1 b2 =>
      [ (0xA2, .imm b1, 2, false), (0xA6, .zp0 b1, 3, false), (0xB6, .zpy b1, 4, false),
        (0xAE, .abs b1 b2, 4, false), (0xBE, .aby b1 b2, 4, true) ])) ∧
    (i.mnemonic = .ldy → EncodedAs i (fun b1 b2 =>
      [ (0xA0, .imm b1, 2, false), (0xA4, .zp0 b1, 3, false), (0xB4, .zpx b1, 4, false),
        (0xAC, .abs b1 b2, 4, false), (0xBC, .abx b1 b2, 4, true) ]))) ∧
  ∀ (i : Instr) (s : State),
    let l := locate i.operand s
    let m := operandByte i.operand l.1.ea l.2
    let cycles := s.cpuCycles + i.baseCycles + (if i.pgx = true ∧ l.1.crossed = true then 1 else 0)
    let flags := [(Flag.zero, decide (m.1 = 0)), (Flag.negative, m.1.getLsbD 7)]
    (i.mnemonic = .lda → ∃ t, exec i s = .next t ∧ FlagsAfter s t flags ∧
      t = { m.2 with a := m.1, p := t.p, cpuCycles := cycles }) ∧
    (i.mnemonic = .ldx → ∃ t, exec i s = .next t ∧ FlagsAfter s t flags ∧
      t = { m.2 with x := m.1, p := t.p, cpuCycles := cycles }) ∧
    (i.mnemonic = .ldy → ∃ t, exec i s = .next t ∧ FlagsAfter s t flags ∧
      t = { m.2 with y := m.1, p := t.p, cpuCycles := cycles })

/-- `STA`, `STX`, `STY` (R133, R134, R135), all formats: one bus write of the register at the effective address, no
read there, no flag, the base cycles and never a page-cross bonus. Constructors: `staZp0` to `staIzy`, `stxZp0`,
`stxZpy`, `stxAbs`, `styZp0`, `styZpx`, `styAbs`. The first clause gives the rows of the opcode map (opcode, format,
base cycles, page-cross flag). -/
def Obligations.StoreRegisters : Prop :=
  (∀ i : Instr,
    (i.mnemonic = .sta → EncodedAs i (fun b1 b2 =>
      [ (0x85, .zp0 b1, 3, false), (0x95, .zpx b1, 4, false), (0x8D, .abs b1 b2, 4, false),
        (0x9D, .abx b1 b2, 5, false), (0x99, .aby b1 b2, 5, false), (0x81, .izx b1, 6, false),
        (0x91, .izy b1, 6, false) ])) ∧
    (i.mnemonic = .stx → EncodedAs i (fun b1 b2 =>
      [ (0x86, .zp0 b1, 3, false), (0x96, .zpy b1, 4, false), (0x8E, .abs b1 b2, 4, false) ])) ∧
    (i.mnemonic = .sty → EncodedAs i (fun b1 b2 =>
      [ (0x84, .zp0 b1, 3, false), (0x94, .zpx b1, 4, false), (0x8C, .abs b1 b2, 4, false) ]))) ∧
  ∀ (i : Instr) (s : State),
    let l := locate i.operand s
    (i.mnemonic = .sta →
      exec i s = .next { busWrite l.1.ea s.a l.2 with cpuCycles := s.cpuCycles + i.baseCycles }) ∧
    (i.mnemonic = .stx →
      exec i s = .next { busWrite l.1.ea s.x l.2 with cpuCycles := s.cpuCycles + i.baseCycles }) ∧
    (i.mnemonic = .sty →
      exec i s = .next { busWrite l.1.ea s.y l.2 with cpuCycles := s.cpuCycles + i.baseCycles }) ∧
    (i.mnemonic ∈ [Mnemonic.sta, .stx, .sty] → l.2 = s ∧ (busWrite l.1.ea s.a l.2).p = s.p)

/-- `TAX`, `TAY`, `TXA`, `TYA`, `TSX` (R136 to R140) copy a register and set Z and N from it; `TXS` (R141) copies `X`
to `SP` and writes no flag. Each takes 2 cycles and changes nothing else. Constructors: `tax`, `tay`, `txa`, `tya`,
`tsx`, `txs`. The first clause gives the encodings. -/
def Obligations.Transfers : Prop :=
  (encode .tax = [0xAA] ∧ encode .tay = [0xA8] ∧ encode .txa = [0x8A] ∧ encode .tya = [0x98] ∧
   encode .tsx = [0xBA] ∧ encode .txs = [0x9A]) ∧
  ∀ s : State,
    let flags := fun v : Byte => [(Flag.zero, decide (v = 0)), (Flag.negative, v.getLsbD 7)]
    (∃ t, exec .tax s = .next t ∧ t = { s with x := s.a, p := t.p, cpuCycles := s.cpuCycles + 2 } ∧
      FlagsAfter s t (flags s.a)) ∧
    (∃ t, exec .tay s = .next t ∧ t = { s with y := s.a, p := t.p, cpuCycles := s.cpuCycles + 2 } ∧
      FlagsAfter s t (flags s.a)) ∧
    (∃ t, exec .txa s = .next t ∧ t = { s with a := s.x, p := t.p, cpuCycles := s.cpuCycles + 2 } ∧
      FlagsAfter s t (flags s.x)) ∧
    (∃ t, exec .tya s = .next t ∧ t = { s with a := s.y, p := t.p, cpuCycles := s.cpuCycles + 2 } ∧
      FlagsAfter s t (flags s.y)) ∧
    (∃ t, exec .tsx s = .next t ∧ t = { s with x := s.sp, p := t.p, cpuCycles := s.cpuCycles + 2 } ∧
      FlagsAfter s t (flags s.sp)) ∧
    exec .txs s = .next { s with sp := s.x, cpuCycles := s.cpuCycles + 2 }

/-! ### Arithmetic and logic -/

/-- `ADC` (R150), all formats: with `M` the operand and `C` the old carry, `A` becomes `(A + M + C) mod 256`, the new
Carry says that the sum exceeds 255, Overflow that the sum of the signed values leaves -128 to 127, Z and N follow the
result; Decimal has no influence. Constructors: `adcImm` to `adcIzy`. The first clause gives the rows of the opcode
map (opcode, format, base cycles, page-cross flag). -/
def Obligations.AddWithCarry : Prop :=
  (∀ i : Instr,
    (i.mnemonic = .adc → EncodedAs i (eightFormats 0x69 0x65 0x75 0x6D 0x7D 0x79 0x61 0x71))) ∧
  ∀ (i : Instr) (s : State), i.mnemonic = .adc →
    let l := locate i.operand s
    let m := operandByte i.operand l.1.ea l.2
    let c := (s.flag .carry).toNat
    let sum := s.a.toNat + m.1.toNat + c
    let signed := s.a.toInt + m.1.toInt + (c : Int)
    ∃ t, exec i s = .next t ∧
      t = { m.2 with
              a := BitVec.ofNat 8 sum
              p := t.p
              cpuCycles := s.cpuCycles + i.baseCycles + (if i.pgx = true ∧ l.1.crossed = true then 1 else 0) } ∧
      FlagsAfter s t
        [(.carry, decide (255 < sum)), (.overflow, decide (signed < -128 ∨ 127 < signed)),
         (.zero, decide (sum % 256 = 0)), (.negative, decide (128 ≤ sum % 256))]

/-- `SBC` (R151), all formats: `A` becomes `(A - M - (1 - C)) mod 256`, the new Carry says that no borrow occurred (`A
>= M + (1 - C)`), Overflow that the signed difference leaves -128 to 127, Z and N follow the result. Constructors:
`sbcImm` to `sbcIzy`. The first clause gives the rows of the opcode map (opcode, format, base cycles, page-cross
flag). -/
def Obligations.SubtractWithCarry : Prop :=
  (∀ i : Instr,
    (i.mnemonic = .sbc → EncodedAs i (eightFormats 0xE9 0xE5 0xF5 0xED 0xFD 0xF9 0xE1 0xF1))) ∧
  ∀ (i : Instr) (s : State), i.mnemonic = .sbc →
    let l := locate i.operand s
    let m := operandByte i.operand l.1.ea l.2
    let borrow := 1 - (s.flag .carry).toNat
    let diff := (256 + s.a.toNat - m.1.toNat - borrow) % 256
    let signed := s.a.toInt - m.1.toInt - (borrow : Int)
    ∃ t, exec i s = .next t ∧
      t = { m.2 with
              a := BitVec.ofNat 8 diff
              p := t.p
              cpuCycles := s.cpuCycles + i.baseCycles + (if i.pgx = true ∧ l.1.crossed = true then 1 else 0) } ∧
      FlagsAfter s t
        [(.carry, decide (m.1.toNat + borrow ≤ s.a.toNat)), (.overflow, decide (signed < -128 ∨ 127 < signed)),
         (.zero, decide (diff = 0)), (.negative, decide (128 ≤ diff))]

/-- `AND`, `ORA`, `EOR` (R152, R153, R154), all formats: the bitwise result goes to `A`, Z and N follow it, C and V
are unchanged. Constructors: `andImm` to `andIzy`, `oraImm` to `oraIzy`, `eorImm` to `eorIzy`. The first clause gives
the rows of the opcode map (opcode, format, base cycles, page-cross flag). -/
def Obligations.BitwiseLogic : Prop :=
  (∀ i : Instr,
    (i.mnemonic = .and → EncodedAs i (eightFormats 0x29 0x25 0x35 0x2D 0x3D 0x39 0x21 0x31)) ∧
    (i.mnemonic = .ora → EncodedAs i (eightFormats 0x09 0x05 0x15 0x0D 0x1D 0x19 0x01 0x11)) ∧
    (i.mnemonic = .eor → EncodedAs i (eightFormats 0x49 0x45 0x55 0x4D 0x5D 0x59 0x41 0x51))) ∧
  ∀ (i : Instr) (s : State) (op : Byte → Byte → Byte),
    (i.mnemonic, op) ∈ [(Mnemonic.and, fun u v : Byte => u &&& v), (.ora, fun u v => u ||| v),
      (.eor, fun u v => u ^^^ v)] →
    let l := locate i.operand s
    let m := operandByte i.operand l.1.ea l.2
    ∃ t, exec i s = .next t ∧
      t = { m.2 with
              a := op s.a m.1
              p := t.p
              cpuCycles := s.cpuCycles + i.baseCycles + (if i.pgx = true ∧ l.1.crossed = true then 1 else 0) } ∧
      FlagsAfter s t [(.zero, decide (op s.a m.1 = 0)), (.negative, (op s.a m.1).getLsbD 7)]

/-- `CMP`, `CPX`, `CPY` (R155, R156, R157), all formats: Carry says that the register is at least the operand, Zero
that they are equal, Negative is bit 7 of the difference; V, the old carry and every register play no part. `BIT`
(R158): Zero says that `A & M` is 0, Negative and Overflow are bits 7 and 6 of `M`. Constructors: `cmpImm` to
`cmpIzy`, `cpxImm`, `cpxZp0`, `cpxAbs`, `cpyImm`, `cpyZp0`, `cpyAbs`, `bitZp0`, `bitAbs`. The first clause gives the
rows of the opcode map (opcode, format, base cycles, page-cross flag). -/
def Obligations.CompareAndBit : Prop :=
  (∀ i : Instr,
    (i.mnemonic = .cmp → EncodedAs i (eightFormats 0xC9 0xC5 0xD5 0xCD 0xDD 0xD9 0xC1 0xD1)) ∧
    (i.mnemonic = .cpx → EncodedAs i (fun b1 b2 =>
      [ (0xE0, .imm b1, 2, false), (0xE4, .zp0 b1, 3, false), (0xEC, .abs b1 b2, 4, false) ])) ∧
    (i.mnemonic = .cpy → EncodedAs i (fun b1 b2 =>
      [ (0xC0, .imm b1, 2, false), (0xC4, .zp0 b1, 3, false), (0xCC, .abs b1 b2, 4, false) ])) ∧
    (i.mnemonic = .bit → EncodedAs i (fun b1 b2 =>
      [ (0x24, .zp0 b1, 3, false), (0x2C, .abs b1 b2, 4, false) ]))) ∧
  ∀ (i : Instr) (s : State),
    let l := locate i.operand s
    let m := operandByte i.operand l.1.ea l.2
    let cycles := s.cpuCycles + i.baseCycles + (if i.pgx = true ∧ l.1.crossed = true then 1 else 0)
    (∀ reg : Byte, (i.mnemonic, reg) ∈ [(Mnemonic.cmp, s.a), (.cpx, s.x), (.cpy, s.y)] →
      ∃ t, exec i s = .next t ∧ t = { m.2 with p := t.p, cpuCycles := cycles } ∧
        FlagsAfter s t
          [(.carry, decide (m.1.toNat ≤ reg.toNat)), (.zero, decide (reg = m.1)),
           (.negative, decide (128 ≤ (256 + reg.toNat - m.1.toNat) % 256))]) ∧
    (i.mnemonic = .bit →
      ∃ t, exec i s = .next t ∧ t = { m.2 with p := t.p, cpuCycles := cycles } ∧
        FlagsAfter s t
          [(.zero, decide (s.a &&& m.1 = 0)), (.negative, m.1.getLsbD 7), (.overflow, m.1.getLsbD 6)])

/-- `INC` and `DEC` (R159, R160), all formats: one read and one write of the effective address, the byte plus or minus
one modulo 256; Z and N follow it, C and V are unchanged; no page-cross bonus. Constructors: `incZp0`, `incZpx`,
`incAbs`, `incAbx`, `decZp0`, `decZpx`, `decAbs`, `decAbx`. The first clause gives the rows of the opcode map (opcode,
format, base cycles, page-cross flag). -/
def Obligations.IncDecMemory : Prop :=
  (∀ i : Instr,
    (i.mnemonic = .inc → EncodedAs i (fun b1 b2 =>
      [ (0xE6, .zp0 b1, 5, false), (0xF6, .zpx b1, 6, false), (0xEE, .abs b1 b2, 6, false),
        (0xFE, .abx b1 b2, 7, false) ])) ∧
    (i.mnemonic = .dec → EncodedAs i (fun b1 b2 =>
      [ (0xC6, .zp0 b1, 5, false), (0xD6, .zpx b1, 6, false), (0xCE, .abs b1 b2, 6, false),
        (0xDE, .abx b1 b2, 7, false) ]))) ∧
  ∀ (i : Instr) (s : State) (delta : Nat), (i.mnemonic, delta) ∈ [(Mnemonic.inc, 1), (.dec, 255)] →
    let l := locate i.operand s
    let m := operandByte i.operand l.1.ea l.2
    let v := BitVec.ofNat 8 (m.1.toNat + delta)
    ∃ t, exec i s = .next t ∧
      t = { busWrite l.1.ea v m.2 with p := t.p, cpuCycles := s.cpuCycles + i.baseCycles } ∧
      FlagsAfter s t [(.zero, decide (v = 0)), (.negative, v.getLsbD 7)]

/-- `INX`, `INY`, `DEX`, `DEY` (R161 to R164): the register plus or minus one modulo 256, Z and N from it, 2 cycles,
nothing else. Constructors: `inx`, `iny`, `dex`, `dey`. The first clause gives the encodings. -/
def Obligations.IncDecRegisters : Prop :=
  (encode .inx = [0xE8] ∧ encode .iny = [0xC8] ∧ encode .dex = [0xCA] ∧ encode .dey = [0x88]) ∧
  ∀ s : State,
    let flags := fun v : Byte => [(Flag.zero, decide (v = 0)), (Flag.negative, v.getLsbD 7)]
    (∃ t, exec .inx s = .next t ∧ FlagsAfter s t (flags t.x) ∧
      t = { s with x := BitVec.ofNat 8 (s.x.toNat + 1), p := t.p, cpuCycles := s.cpuCycles + 2 }) ∧
    (∃ t, exec .iny s = .next t ∧ FlagsAfter s t (flags t.y) ∧
      t = { s with y := BitVec.ofNat 8 (s.y.toNat + 1), p := t.p, cpuCycles := s.cpuCycles + 2 }) ∧
    (∃ t, exec .dex s = .next t ∧ FlagsAfter s t (flags t.x) ∧
      t = { s with x := BitVec.ofNat 8 (s.x.toNat + 255), p := t.p, cpuCycles := s.cpuCycles + 2 }) ∧
    (∃ t, exec .dey s = .next t ∧ FlagsAfter s t (flags t.y) ∧
      t = { s with y := BitVec.ofNat 8 (s.y.toNat + 255), p := t.p, cpuCycles := s.cpuCycles + 2 })

/-! ### Shifts and rotates -/

/-- `ASL`, `LSR`, `ROL`, `ROR` (R170 to R173), on `A` or on memory by format: the result and the bit that goes to
Carry in arithmetic on the operand `v` and the old carry `c`; Z and N follow the result, V is unchanged; one read and
one write of memory, or none on `A`; no page-cross bonus. Constructors: `aslAcc` to `aslAbx`, `lsrAcc` to `lsrAbx`,
`rolAcc` to `rolAbx`, `rorAcc` to `rorAbx`. The first clause gives the rows of the opcode map (opcode, format, base
cycles, page-cross flag). -/
def Obligations.ShiftsAndRotates : Prop :=
  (∀ i : Instr,
    (i.mnemonic = .asl → EncodedAs i (shiftFormats 0x0A 0x06 0x16 0x0E 0x1E)) ∧
    (i.mnemonic = .lsr → EncodedAs i (shiftFormats 0x4A 0x46 0x56 0x4E 0x5E)) ∧
    (i.mnemonic = .rol → EncodedAs i (shiftFormats 0x2A 0x26 0x36 0x2E 0x3E)) ∧
    (i.mnemonic = .ror → EncodedAs i (shiftFormats 0x6A 0x66 0x76 0x6E 0x7E))) ∧
  ∀ (i : Instr) (s : State),
    let l := locate i.operand s
    let m := operandByte i.operand l.1.ea l.2
    let v := m.1.toNat
    let c := (s.flag .carry).toNat
    ∀ (result : Nat) (carry : Bool),
      (i.mnemonic, result, carry) ∈
        [(Mnemonic.asl, 2 * v % 256, decide (128 ≤ v)), (.lsr, v / 2, decide (v % 2 = 1)),
         (.rol, (2 * v + c) % 256, decide (128 ≤ v)), (.ror, v / 2 + 128 * c, decide (v % 2 = 1))] →
      ∃ t, exec i s = .next t ∧
        t = { (if i.operand = .acc then { s with a := BitVec.ofNat 8 result }
               else busWrite l.1.ea (BitVec.ofNat 8 result) m.2) with
              p := t.p, cpuCycles := s.cpuCycles + i.baseCycles } ∧
        FlagsAfter s t [(.carry, carry), (.zero, decide (result = 0)), (.negative, decide (128 ≤ result))]

/-! ### Branches, jumps, subroutines -/

/-- The eight branches (R180 to R188): if the tested flag has the tested value, `PC` becomes the address after the
instruction plus the signed displacement modulo 65536, in 3 cycles, or 4 if that is in another page; else `PC` stays,
in 2 cycles. Nothing else changes. Constructors: `bcc`, `bcs`, `beq`, `bne`, `bmi`, `bpl`, `bvc`, `bvs`. The first
clause gives the encodings. -/
def Obligations.Branches : Prop :=
  (∀ b1 : Byte,
    encode (.bcc b1) = [0x90, b1] ∧ encode (.bcs b1) = [0xB0, b1] ∧ encode (.beq b1) = [0xF0, b1] ∧
    encode (.bne b1) = [0xD0, b1] ∧ encode (.bmi b1) = [0x30, b1] ∧ encode (.bpl b1) = [0x10, b1] ∧
    encode (.bvc b1) = [0x50, b1] ∧ encode (.bvs b1) = [0x70, b1]) ∧
  ∀ (s : State) (b1 : Byte) (i : Instr) (f : Flag) (wanted : Bool),
    (i, f, wanted) ∈
      [(Instr.bcc b1, Flag.carry, false), (.bcs b1, .carry, true), (.beq b1, .zero, true), (.bne b1, .zero, false),
       (.bmi b1, .negative, true), (.bpl b1, .negative, false), (.bvc b1, .overflow, false),
       (.bvs b1, .overflow, true)] →
    let target := BitVec.ofInt 16 ((s.pc.toNat : Int) + b1.toInt)
    exec i s =
      .next
        (if s.flag f = wanted then
          { s with
            pc := target
            cpuCycles := s.cpuCycles + (if target.toNat / 256 = s.pc.toNat / 256 then 3 else 4) }
         else { s with cpuCycles := s.cpuCycles + 2 })

/-- `JMP` (R189): `PC` becomes the operand, or the address that the pointer holds, after the two pointer reads (IND);
no flag, no other change; 3 and 5 cycles. Constructors: `jmpAbs`, `jmpInd`. The first clause gives the encodings. -/
def Obligations.Jumps : Prop :=
  (∀ b1 b2 : Byte,
    encode (.jmpAbs b1 b2) = [0x4C, b1, b2] ∧ encode (.jmpInd b1 b2) = [0x6C, b1, b2]) ∧
  ∀ (s : State) (b1 b2 : Byte),
    exec (.jmpAbs b1 b2) s =
      .next { s with pc := BitVec.ofNat 16 (256 * b2.toNat + b1.toNat), cpuCycles := s.cpuCycles + 3 } ∧
    exec (.jmpInd b1 b2) s =
      .next
        { (locate (.ind b1 b2) s).2 with
          pc := (locate (.ind b1 b2) s).1.ea
          cpuCycles := s.cpuCycles + 5 }

/-- `JSR` (R190) pushes the address of its own third byte, high then low, and jumps; `RTS` (R191) pulls low then high
and adds one. 6 cycles each, no flag, nothing else. Constructors: `jsrAbs`, `rts`. The first clause gives the
encodings. -/
def Obligations.Subroutines : Prop :=
  (∀ b1 b2 : Byte,
    encode (.jsrAbs b1 b2) = [0x20, b1, b2] ∧ encode .rts = [0x60]) ∧
  ∀ (s : State) (b1 b2 : Byte),
    (let back := s.pc - 1
     exec (.jsrAbs b1 b2) s =
      .next
        { s with
          ram :=
            Memory.write (Memory.write s.ram (0x100 + s.sp.toNat) (BitVec.ofNat 8 (back.toNat / 256)))
              (0x100 + (s.sp - 1).toNat) (BitVec.ofNat 8 (back.toNat % 256))
          sp := s.sp - 2
          pc := BitVec.ofNat 16 (256 * b2.toNat + b1.toNat)
          cpuCycles := s.cpuCycles + 6 }) ∧
    (let lo := Memory.read s.ram (0x100 + (s.sp + 1).toNat)
     let hi := Memory.read s.ram (0x100 + (s.sp + 2).toNat)
     exec .rts s =
      .next
        { s with
          sp := s.sp + 2
          pc := BitVec.ofNat 16 (256 * hi.toNat + lo.toNat + 1)
          cpuCycles := s.cpuCycles + 6 })

/-! ### Stack, flags, interrupts -/

/-- `PHA`, `PLA`, `PHP`, `PLP` (R200 to R203): a push stores at `0x0100 + SP` and decrements `SP`, a pull increments
`SP` and reads there; `PHP` pushes `P | 0x30`; `PLA` sets Z and N from the byte; `PLP` loads `(v & 0xCF) | 0x20`. 3
cycles for a push, 4 for a pull, nothing else. Constructors: `pha`, `pla`, `php`, `plp`. The first clause gives the
encodings. -/
def Obligations.PushAndPull : Prop :=
  (encode .pha = [0x48] ∧ encode .pla = [0x68] ∧ encode .php = [0x08] ∧ encode .plp = [0x28]) ∧
  ∀ s : State,
    let pulled := Memory.read s.ram (0x100 + (s.sp + 1).toNat)
    exec .pha s =
      .next
        { s with
          ram := Memory.write s.ram (0x100 + s.sp.toNat) s.a, sp := s.sp - 1, cpuCycles := s.cpuCycles + 3 } ∧
    exec .php s =
      .next
        { s with
          ram := Memory.write s.ram (0x100 + s.sp.toNat) (s.p ||| 0x30)
          sp := s.sp - 1
          cpuCycles := s.cpuCycles + 3 } ∧
    (∃ t, exec .pla s = .next t ∧
      t = { s with a := pulled, sp := s.sp + 1, p := t.p, cpuCycles := s.cpuCycles + 4 } ∧
      FlagsAfter s t [(.zero, decide (pulled = 0)), (.negative, pulled.getLsbD 7)]) ∧
    exec .plp s =
      .next { s with p := (pulled &&& 0xCF) ||| 0x20, sp := s.sp + 1, cpuCycles := s.cpuCycles + 4 }

/-- `CLC`, `SEC`, `CLI`, `SEI`, `CLD`, `SED`, `CLV` (R204 to R210) set one flag to one value and change nothing else;
`NOP` (R211) changes nothing. 2 cycles each. Constructors: `clc`, `sec`, `cli`, `sei`, `cld`, `sed`, `clv`, `nop`. The
first clause gives the encodings. -/
def Obligations.FlagInstructions : Prop :=
  (encode .clc = [0x18] ∧ encode .sec = [0x38] ∧ encode .cli = [0x58] ∧ encode .sei = [0x78] ∧
   encode .cld = [0xD8] ∧ encode .sed = [0xF8] ∧ encode .clv = [0xB8] ∧ encode .nop = [0xEA]) ∧
  ∀ (s : State) (i : Instr) (changes : List (Flag × Bool)),
    (i, changes) ∈
      [(Instr.clc, [(Flag.carry, false)]), (.sec, [(.carry, true)]), (.cli, [(.interruptDisable, false)]),
       (.sei, [(.interruptDisable, true)]), (.cld, [(.decimal, false)]), (.sed, [(.decimal, true)]),
       (.clv, [(.overflow, false)]), (.nop, [])] →
    ∃ t, exec i s = .next t ∧ t = { s with p := t.p, cpuCycles := s.cpuCycles + 2 } ∧ FlagsAfter s t changes

/-- `BRK` (R212): skips a byte without reading it, pushes the address after it, high then low, then `P | 0x30`, sets
InterruptDisable and loads `PC` from the PRG-ROM bytes at 0xFFFE and 0xFFFF, 7 cycles. `RTI` (R213): pulls the status
(Break not kept, Unused set), then `PC` low, then `PC` high, with no increment, 6 cycles. Nothing else changes.
Constructors: `brk`, `rti`. The first clause gives the encodings. -/
def Obligations.BreakAndReturn : Prop :=
  (encode .brk = [0x00] ∧ encode .rti = [0x40]) ∧
  ∀ s : State,
    (let back := s.pc + 1
     let vector := fun a : Addr => (Memory.read s.cart.prg (s.cart.prgIndex a)).toNat
     ∃ t, exec .brk s = .next t ∧
      t = { s with
              ram :=
                Memory.write
                  (Memory.write
                    (Memory.write s.ram (0x100 + s.sp.toNat) (BitVec.ofNat 8 (back.toNat / 256)))
                    (0x100 + (s.sp - 1).toNat) (BitVec.ofNat 8 (back.toNat % 256)))
                  (0x100 + (s.sp - 2).toNat) (s.p ||| 0x30)
              sp := s.sp - 3
              p := t.p
              pc := BitVec.ofNat 16 (256 * vector 0xFFFF + vector 0xFFFE)
              cpuCycles := s.cpuCycles + 7 } ∧
      FlagsAfter s t [(.interruptDisable, true)]) ∧
    (let v := Memory.read s.ram (0x100 + (s.sp + 1).toNat)
     let lo := Memory.read s.ram (0x100 + (s.sp + 2).toNat)
     let hi := Memory.read s.ram (0x100 + (s.sp + 3).toNat)
     exec .rti s =
      .next
        { s with
          p := (v &&& 0xCF) ||| 0x20
          pc := BitVec.ofNat 16 (256 * hi.toNat + lo.toNat)
          sp := s.sp + 3
          cpuCycles := s.cpuCycles + 6 })

/-- Returns match entries: `RTS` undoes `JSR`, and `RTI` undoes the entry of `BRK` and of the NMI. `PC` is the byte after the
`JSR`, one past the skipped byte for `BRK`, exact for the NMI; `SP`, the registers and `P` are as before (R190, R191, R213, R305,
R308), for every status that the live register can hold (R15). -/
def Obligations.ReturnsMatchEntries : Prop :=
  ∀ (s : State) (b1 b2 : Byte), Memory.wf 2048 s.ram = true → s.StatusLegal →
    let same := fun u : State => u.sp = s.sp ∧ u.a = s.a ∧ u.x = s.x ∧ u.y = s.y ∧ u.p = s.p
    (∃ t u, exec (.jsrAbs b1 b2) s = .next t ∧ exec .rts t = .next u ∧ u.pc = s.pc ∧ same u) ∧
    (∃ t u, exec .brk s = .next t ∧ exec .rti t = .next u ∧ u.pc = s.pc + 1 ∧ same u) ∧
    (∃ u, exec .rti (nmiEntry s) = .next u ∧ u.pc = s.pc ∧ same u)

/-- An undefined opcode (R214, R301): under the policy `fault` it records the opcode byte and the address it was read from
and changes nothing else, consuming no cycle; under `nop` it passes 2 cycles and changes nothing else. Constructor: `ill`. -/
def Obligations.UndefinedOpcodeAction : Prop :=
  ∀ (s : State) (op : Byte),
    (s.params.illegalOpcodePolicy = .fault →
      exec (.ill op) s = .next { s with fault := some (.illegalOpcode op (s.pc - 1)) }) ∧
    (s.params.illegalOpcodePolicy = .nop → exec (.ill op) s = .next { s with cpuCycles := s.cpuCycles + 2 })

/-! ### Frames and cycle counts of the instructions -/

/-- The frame of every instruction that only reads its operand: it completes; `SP`, `PC` and the registers other than its
destination are unchanged; Interrupt-disable, Decimal, Break and Unused are unchanged; every byte of every memory reads as
before; outside the CPU nothing changes but what a bus read can change. -/
def Obligations.ReadInstructionFrame : Prop :=
  ∀ (i : Instr) (s : State),
    i.mnemonic ∈ [Mnemonic.lda, .ldx, .ldy, .adc, .sbc, .and, .ora, .eor, .cmp, .cpx, .cpy, .bit] →
    ∃ t, exec i s = .next t ∧ t.sp = s.sp ∧ t.pc = s.pc ∧
      (i.mnemonic ∉ [Mnemonic.lda, .adc, .sbc, .and, .ora, .eor] → t.a = s.a) ∧
      (i.mnemonic ≠ .ldx → t.x = s.x) ∧ (i.mnemonic ≠ .ldy → t.y = s.y) ∧
      (∀ f ∈ [Flag.interruptDisable, .decimal, .breakBit, .unused], t.flag f = s.flag f) ∧
      (i.mnemonic ∉ [Mnemonic.adc, .sbc, .bit] → t.flag .overflow = s.flag .overflow) ∧
      (i.mnemonic ∉ [Mnemonic.adc, .sbc, .cmp, .cpx, .cpy] → t.flag .carry = s.flag .carry) ∧
      SameMemories s t ∧ SameButReadEffects s t

/-- The frame of every instruction that stores to memory, in its memory formats: it completes; `A`, `X`, `Y`, `SP` and `PC` are
unchanged; Interrupt-disable, Decimal, Break, Unused and Overflow are unchanged, and a plain store changes no flag;
with `ea` the address that its mode gives, every RAM byte but the one that `ea` selects reads as before, every PRG-RAM
byte likewise, VRAM, OAM and CHR can change only through the PPU registers and the DMA port, ROM never; and below 0x2000
the byte at `ea` is the only thing outside the CPU that changes. -/
def Obligations.StoreInstructionFrame : Prop :=
  ∀ (i : Instr) (s : State), s.MemoryLegal → s.cart.Legal →
    i.mnemonic ∈ [Mnemonic.sta, .stx, .sty, .inc, .dec, .asl, .lsr, .rol, .ror] → i.operand ≠ .acc →
    let ea := (locate i.operand s).1.ea
    ∃ t, exec i s = .next t ∧ t.a = s.a ∧ t.x = s.x ∧ t.y = s.y ∧ t.sp = s.sp ∧ t.pc = s.pc ∧
      (∀ f ∈ [Flag.interruptDisable, .decimal, .breakBit, .unused, .overflow], t.flag f = s.flag f) ∧
      (i.mnemonic ∈ [Mnemonic.sta, .stx, .sty] → t.p = s.p) ∧
      (∀ k : Nat, ¬ (ea.toNat ≤ 0x1FFF ∧ k = ea.toNat % 0x800) → Memory.read t.ram k = Memory.read s.ram k) ∧
      (∀ r u : Mmc1, s.cart.mapper = .mmc1 r → t.cart.mapper = .mmc1 u →
        ∀ k : Nat, ¬ (0x6000 ≤ ea.toNat ∧ ea.toNat ≤ 0x7FFF ∧ k = ea.toNat - 0x6000) →
          Memory.read u.prgRam k = Memory.read r.prgRam k) ∧
      (¬ (0x2000 ≤ ea.toNat ∧ ea.toNat ≤ 0x3FFF) → ea.toNat ≠ 0x4014 →
        t.ppu.vram = s.ppu.vram ∧ t.ppu.oam = s.ppu.oam ∧ t.cart.chr = s.cart.chr) ∧
      t.cart.prg = s.cart.prg ∧
      (ea.toNat ≤ 0x1FFF →
        t = { s with p := t.p, ram := t.ram, cpuCycles := t.cpuCycles } ∧
        (i.mnemonic = .sta → Memory.read t.ram (ea.toNat % 0x800) = s.a) ∧
        (i.mnemonic = .stx → Memory.read t.ram (ea.toNat % 0x800) = s.x) ∧
        (i.mnemonic = .sty → Memory.read t.ram (ea.toNat % 0x800) = s.y))

/-- Every stack operation stays in page 1 (10_state.md R12): pushes by instructions and the two interrupt entries leave every
RAM byte outside 0x0100 to 0x01FF alone, and instructions that pull change no memory at all. -/
def Obligations.StackStaysInPageOne : Prop :=
  ∀ s : State, Memory.wf 2048 s.ram = true →
    (∀ (b1 b2 : Byte) (i : Instr), i ∈ [Instr.pha, .php, .jsrAbs b1 b2, .brk] →
      ∃ t, exec i s = .next t ∧
        ∀ k : Nat, ¬ (0x100 ≤ k ∧ k ≤ 0x1FF) → Memory.read t.ram k = Memory.read s.ram k) ∧
    (∀ k : Nat, ¬ (0x100 ≤ k ∧ k ≤ 0x1FF) → Memory.read (nmiEntry s).ram k = Memory.read s.ram k) ∧
    (∀ i : Instr, i ∈ [Instr.pla, .plp, .rts, .rti] → ∃ t, exec i s = .next t ∧ SameMemories s t)

/-- Every defined instruction completes in 2 to 7 cycles (40_addressing_modes.md R111), for every state and every operand. -/
def Obligations.CycleBounds : Prop :=
  ∀ (i : Instr) (s : State), i.mnemonic ≠ .ill →
    ∃ t, exec i s = .next t ∧ s.cpuCycles + 2 ≤ t.cpuCycles ∧ t.cpuCycles ≤ s.cpuCycles + 7

/-! ### The Bus -/

/-- RAM is mirrored every 0x800 bytes (20_memory.md R56) and the PPU registers every 8 bytes (R57), on reads and on writes; a
RAM byte reads back as written. -/
def Obligations.MirroredRegions : Prop :=
  ∀ (a b : Addr) (v : Byte) (s : State),
    (a.toNat ≤ 0x1FFF → b.toNat ≤ 0x1FFF → a.toNat % 0x800 = b.toNat % 0x800 →
      busRead a s = busRead b s ∧ busWrite a v s = busWrite b v s ∧
      (Memory.wf 2048 s.ram = true → busRead b (busWrite a v s) = (v, busWrite a v s))) ∧
    (0x2000 ≤ a.toNat → a.toNat ≤ 0x3FFF → 0x2000 ≤ b.toNat → b.toNat ≤ 0x3FFF → a.toNat % 8 = b.toNat % 8 →
      busRead a s = busRead b s ∧ busWrite a v s = busWrite b v s)

/-- The stubs (20_memory.md R58, R62): 0x4000 to 0x4013, 0x4015 and 0x4018 to 0x401F read as 0x00 and ignore writes; so does,
by R63 (decision D22), every address from 0x4020 up that the mapper does not claim, and 0x4014 reads as 0x00 (R59). -/
def Obligations.StubsAndUnclaimed : Prop :=
  ∀ (a : Addr) (v : Byte) (s : State),
    ((0x4000 ≤ a.toNat ∧ a.toNat ≤ 0x4013) ∨ a.toNat = 0x4015 ∨ (0x4018 ≤ a.toNat ∧ a.toNat ≤ 0x401F) →
      busRead a s = (0x00, s) ∧ busWrite a v s = s) ∧
    (0x4020 ≤ a.toNat → s.cart.cpuRead a = none → busRead a s = (0x00, s)) ∧
    (0x4020 ≤ a.toNat → s.cart.cpuWrite a v = none → busWrite a v s = s) ∧
    busRead 0x4014 s = (0x00, s)

/-- Every read but those of 0x2002, 0x2007 (and mirrors), 0x4016 and 0x4017 changes nothing (20_memory.md R64, R295(b)). -/
def Obligations.OnlyFourReadsHaveEffects : Prop :=
  ∀ (a : Addr) (s : State), (busRead a s).2 ≠ s →
    (0x2000 ≤ a.toNat ∧ a.toNat ≤ 0x3FFF ∧ (a.toNat % 8 = 2 ∨ a.toNat % 8 = 7)) ∨ a.toNat = 0x4016 ∨ a.toNat = 0x4017

/-- A bus write reaches only what lies behind its address (20_memory.md R55, R64): RAM only below 0x2000, a PPU register only
at 0x2000 to 0x3FFF, OAM and the stall only at 0x4014 besides, the controllers at 0x4016, the mapper from 0x6000 up. ROM
bytes, the header fields of the cartridge, the CPU registers, the fault, the parameters and the cycle count never change. -/
def Obligations.WritesReachOneDevice : Prop :=
  ∀ (a : Addr) (v : Byte) (s : State),
    let t := busWrite a v s
    (0x2000 ≤ a.toNat → t.ram = s.ram) ∧
    (¬ (0x2000 ≤ a.toNat ∧ a.toNat ≤ 0x3FFF) → a.toNat ≠ 0x4014 → t.ppu = s.ppu) ∧
    (¬ (0x2000 ≤ a.toNat ∧ a.toNat ≤ 0x3FFF) → t.nmiPending = s.nmiPending ∧ t.cart.chr = s.cart.chr) ∧
    (a.toNat ≠ 0x4014 → t.stallCycles = s.stallCycles) ∧
    (a.toNat ≠ 0x4014 → a.toNat ≠ 0x4016 → t.pads = s.pads) ∧
    (a.toNat < 0x6000 → t.cart.mapper = s.cart.mapper) ∧
    t.cart = { s.cart with mapper := t.cart.mapper, chr := t.cart.chr } ∧
    (s.cart.chrIsRam = false → t.cart.chr = s.cart.chr) ∧
    (t.a = s.a ∧ t.x = s.x ∧ t.y = s.y ∧ t.sp = s.sp ∧ t.pc = s.pc ∧ t.p = s.p) ∧
    t.fault = s.fault ∧ t.params = s.params ∧ t.cpuCycles = s.cpuCycles

/-- The controller ports (20_memory.md R60, R61; `BUTTON_BIT_ORDER` of 00_scope.md R4): port 0 lies at 0x4016 and port 1 at
0x4017, and A, B, Select, Start, Up, Down, Left, Right are bits 0 to 7 of `buttons[k]`. After a write with bit 0 set and one with bit 0 clear to 0x4016, the reads of either port return
its buttons in that order, and 1 from then on; while the strobe is 1 every read of either port returns button A. The host
presses or releases exactly the buttons of the mask on the port it names, and changes nothing else. -/
def Obligations.ControllerProtocol : Prop :=
  (Port.port0.address = 0x4016 ∧ Port.port1.address = 0x4017) ∧
  (∀ q : Pad,
    [Button.a, .b, .select, .start, .up, .down, .left, .right].map q.holds =
      (List.range 8).map (fun n => q.buttons.getLsbD n)) ∧
  (∀ (s : State) (n : Nat) (v1 v0 : Byte) (k : Port), v1.getLsbD 0 = true → v0.getLsbD 0 = false →
    let bit := fun (b : Bool) => if b then (0x01 : Byte) else 0x00
    let q := s.pads.pad k
    readMany k.address (8 + n) (busWrite 0x4016 v0 (busWrite 0x4016 v1 s)) =
      [Button.a, .b, .select, .start, .up, .down, .left, .right].map (fun button => bit (q.holds button)) ++
        List.replicate n 0x01 ∧
    readMany k.address n (busWrite 0x4016 v1 s) = List.replicate n (bit (q.holds .a))) ∧
  (∀ (s : State) (mask : Byte) (pressed : Bool) (k j : Port) (button : Button),
    let t := setButtonPressed k mask pressed s
    (∀ n : Nat, n < 8 →
      (t.pads.pad j).buttons.getLsbD n =
        (if j = k ∧ mask.getLsbD n = true then pressed else (s.pads.pad j).buttons.getLsbD n)) ∧
    (t.pads.pad j).shift = (s.pads.pad j).shift ∧ t.pads.strobe = s.pads.strobe ∧ t = { s with pads := t.pads } ∧
    (∀ c : Button,
      ((setButton k button pressed s).pads.pad j).holds c =
        (if j = k ∧ c = button then pressed else (s.pads.pad j).holds c)))

/-- OAM DMA from a page of RAM, PRG-RAM or PRG-ROM (46 R232): OAM cell `oam_addr + i` (modulo 256) takes the byte at page
offset `i`, `oam_addr` ends where it began, 513 cycles are added to the stall, and nothing else changes. From any page, `oam_addr`
and the stall are so. -/
def Obligations.OamDma : Prop :=
  ∀ (s : State) (v : Byte),
    (busWrite 0x4014 v s).ppu.oamAddr = s.ppu.oamAddr ∧ (busWrite 0x4014 v s).stallCycles = s.stallCycles + 513 ∧
    (Memory.wf 256 s.ppu.oam = true → holdsCode s (word16 v 0x00) = true →
      ∃ oam : Memory 8,
        busWrite 0x4014 v s =
          { s with ppu := { s.ppu with oam := oam }, stallCycles := s.stallCycles + 513 } ∧
        ∀ i : Byte, Memory.read oam (s.ppu.oamAddr + i).toNat = (busRead (word16 v i) s).1)

/-! ### The PPU registers and address space -/

/-- PPUSTATUS read (46 R225): the byte holds `vblank` in bit 7 and `sprite0_hit` in bit 6, and the read clears `vblank` and
the write toggle and nothing else. -/
def Obligations.StatusRead : Prop :=
  ∀ (a : Addr) (s : State), 0x2000 ≤ a.toNat → a.toNat ≤ 0x3FFF → a.toNat % 8 = 2 →
    busRead a s =
      (BitVec.ofNat 8 (128 * s.ppu.vblank.toNat + 64 * s.ppu.sprite0Hit.toNat),
       { s with ppu := { s.ppu with vblank := false, w := false } })

/-- PPUCTRL write (46 R223): the value is stored; if it has bit 7 set while `vblank` is set and no NMI has been requested in
this period, one is requested. Nothing else changes. -/
def Obligations.CtrlWrite : Prop :=
  ∀ (a : Addr) (v : Byte) (s : State), 0x2000 ≤ a.toNat → a.toNat ≤ 0x3FFF → a.toNat % 8 = 0 →
    let fires := v.getLsbD 7 && s.ppu.vblank && !s.ppu.nmiFired
    busWrite a v s =
      { s with
        ppu := { s.ppu with ctrl := v, nmiFired := s.ppu.nmiFired || fires }
        nmiPending := s.nmiPending || fires }

/-- PPUMASK, PPUSTATUS, OAMADDR and OAMDATA writes, and the OAMDATA read (46 R222, R224, R226, R227): stores, nothing, a
store, a store with increment modulo 256; the read leaves `oam_addr` alone. -/
def Obligations.MaskAndOamPorts : Prop :=
  ∀ (a : Addr) (v : Byte) (s : State), 0x2000 ≤ a.toNat → a.toNat ≤ 0x3FFF →
    (a.toNat % 8 = 1 → busWrite a v s = { s with ppu := { s.ppu with mask := v } }) ∧
    (a.toNat % 8 = 2 → busWrite a v s = s) ∧
    (a.toNat % 8 = 3 → busWrite a v s = { s with ppu := { s.ppu with oamAddr := v } }) ∧
    (a.toNat % 8 = 4 →
      busWrite a v s =
        { s with
          ppu :=
            { s.ppu with
              oam := Memory.write s.ppu.oam s.ppu.oamAddr.toNat v
              oamAddr := BitVec.ofNat 8 (s.ppu.oamAddr.toNat + 1) } } ∧
      busRead a s = (Memory.read s.ppu.oam s.ppu.oamAddr.toNat, s)) ∧
    (a.toNat % 8 ∈ [0, 1, 3, 5, 6] → busRead a s = (0x00, s))

/-- The write toggle (46 R228, R229; 10_state.md R24): PPUSCROLL sets X then Y, PPUADDR the high 6 then the low 8 bits of the
14-bit address, and both flip the one shared toggle. -/
def Obligations.ScrollAndAddressPairs : Prop :=
  ∀ (a : Addr) (v : Byte) (s : State), 0x2000 ≤ a.toNat → a.toNat ≤ 0x3FFF →
    (a.toNat % 8 = 5 →
      busWrite a v s =
        { s with
          ppu :=
            if s.ppu.w = true then { s.ppu with scrollY := v, w := false }
            else { s.ppu with scrollX := v, w := true } }) ∧
    (a.toNat % 8 = 6 →
      busWrite a v s =
        { s with
          ppu :=
            if s.ppu.w = true then
              { s.ppu with
                vramAddr := BitVec.ofNat 14 (256 * (s.ppu.vramAddr.toNat / 256) + v.toNat), w := false }
            else
              { s.ppu with
                vramAddr := BitVec.ofNat 14 (256 * (v.toNat % 64) + s.ppu.vramAddr.toNat % 256), w := true } })

/-- The PPUDATA port (46 R230, R231, R233): a read returns the buffered byte below 0x3F00 and the fresh byte from there up,
refills the buffer, and advances the address by 1 or 32 modulo 16384; a write stores through the PPU's decoder and
advances likewise. -/
def Obligations.DataPort : Prop :=
  ∀ (a : Addr) (v : Byte) (s : State), 0x2000 ≤ a.toNat → a.toNat ≤ 0x3FFF → a.toNat % 8 = 7 →
    let fresh := ppuRead s s.ppu.vramAddr
    let next := BitVec.ofNat 14 (s.ppu.vramAddr.toNat + (if s.ppu.ctrl.getLsbD 2 = true then 32 else 1))
    busRead a s =
      (if s.ppu.vramAddr.toNat < 0x3F00 then s.ppu.dataBuffer else fresh,
       { s with ppu := { s.ppu with dataBuffer := fresh, vramAddr := next } }) ∧
    (s.ppu.vramAddr.toNat ≤ 0x1FFF → s.cart.chrIsRam = true →
      busWrite a v s =
        { s with
          cart.chr := Memory.write s.cart.chr (s.cart.chrIndex s.ppu.vramAddr) v
          ppu := { s.ppu with vramAddr := next } }) ∧
    (0x2000 ≤ s.ppu.vramAddr.toNat ∨ s.cart.chrIsRam = false →
      busWrite a v s =
        { s with
          ppu :=
            { s.ppu with
              vram := Memory.write s.ppu.vram (mirrorAddr s.cart.mirroring s.ppu.vramAddr).toNat v
              vramAddr := next } })

/-- Nametable mirroring (20_memory.md R67): with `table` and `offset` of the address, horizontal mirroring joins tables 0 and
1 and tables 2 and 3, vertical mirroring tables 0 and 2 and tables 1 and 3, the single-screen modes all four; 0x3000 to
0x3EFF repeats; mirroring is idempotent at every address. -/
def Obligations.NametableMirroring : Prop :=
  ∀ (a : PpuAddr) (m : Mirroring),
    (0x2000 ≤ a.toNat → a.toNat ≤ 0x3EFF →
      let table := (a.toNat - 0x2000) % 0x1000 / 0x400
      let offset := a.toNat % 0x400
      (mirrorAddr m a).toNat =
        0x2000 + offset +
          (match m with
           | .horizontal => 0x800 * (table / 2)
           | .vertical => 0x400 * (table % 2)
           | .oneLo => 0
           | .oneHi => 0x400)) ∧
    (a.toNat ≤ 0x1FFF → mirrorAddr m a = a) ∧
    mirrorAddr m (mirrorAddr m a) = mirrorAddr m a

/-- Palette addresses (20_memory.md R68): 32 bytes repeat from 0x3F00 to 0x3FFF, and 0x3F10, 0x3F14, 0x3F18, 0x3F1C are the
cells of 0x3F00, 0x3F04, 0x3F08, 0x3F0C; no two others of the 32 share a cell; all 8 bits written are read back. -/
def Obligations.PaletteAliases : Prop :=
  (∀ (a b : PpuAddr) (m : Mirroring), 0x3F00 ≤ a.toNat → 0x3F00 ≤ b.toNat →
    let cell := fun i : Nat => if i ∈ [0x10, 0x14, 0x18, 0x1C] then i - 0x10 else i
    (mirrorAddr m a = mirrorAddr m b ↔ cell (a.toNat % 32) = cell (b.toNat % 32))) ∧
  (∀ (a b : PpuAddr) (v : Byte) (s : State), Memory.wf 16384 s.ppu.vram = true → 0x3F00 ≤ a.toNat →
    mirrorAddr s.cart.mirroring a = mirrorAddr s.cart.mirroring b → ppuRead (ppuWrite a v s) b = v)

/-! ### The mappers -/

/-- No mapper claims a CPU address below 0x6000, only mapper 1 claims below 0x8000, and every mapper supplies every read from
0x8000 up; a PPU read is claimed exactly at 0x1FFF and below, a PPU write exactly there with CHR-RAM (48 R272 to R274,
R295(c)). -/
def Obligations.WhatMappersClaim : Prop :=
  ∀ (c : Cartridge) (a : Addr) (q : PpuAddr) (v : Byte),
    (a.toNat < 0x6000 → c.cpuRead a = none ∧ c.cpuWrite a v = none) ∧
    (0x6000 ≤ a.toNat → a.toNat < 0x8000 →
      ((c.cpuRead a).isSome = true ↔ c.mapper.number = 1) ∧ ((c.cpuWrite a v).isSome = true ↔ c.mapper.number = 1)) ∧
    (0x8000 ≤ a.toNat → (c.cpuRead a).isSome = true ∧ ((c.cpuWrite a v).isSome = true ↔ c.mapper.number ≠ 0)) ∧
    ((c.ppuRead q).isSome = true ↔ q.toNat ≤ 0x1FFF) ∧
    ((c.ppuWrite q v).isSome = true ↔ q.toNat ≤ 0x1FFF ∧ c.chrIsRam = true)

/-- What every address of the ROM windows, of PRG-RAM and of the pattern tables reads on each mapper, and that every index
lies inside its array (48 R275, R282 to R284, R288, R291, R274, R295(a)). Mappers 0 and 3: `prg` at the address less 0x8000
modulo its size. Mapper 2: the selected bank at 0x8000, the last at 0xC000. Mapper 1: the banks that the PRG mode and the CHR
mode of the control register select, each offset reduced modulo the size. The bounds hold for every cartridge that a load
yields or a run reaches. -/
def Obligations.MapperIndicesInBounds : Prop :=
  ∀ (s : State) (a : Addr) (q : PpuAddr),
    let c := s.cart
    let prgSize := 16384 * c.prgBanks
    let chrSize := 8192 * c.chrBanks
    (c.inRange = true →
      (0x8000 ≤ a.toNat → c.prgIndex a < prgSize) ∧ (q.toNat ≤ 0x1FFF → c.chrIndex q < chrSize)) ∧
    (∀ bank : Nat, c.mapper = .nrom ∨ c.mapper = .cnrom bank → 0x8000 ≤ a.toNat →
      busRead a s = (Memory.read c.prg ((a.toNat - 0x8000) % prgSize), s)) ∧
    (∀ bank : Nat, c.mapper = .unrom bank →
      (0x8000 ≤ a.toNat → a.toNat ≤ 0xBFFF →
        busRead a s = (Memory.read c.prg (16384 * bank + (a.toNat - 0x8000)), s)) ∧
      (0xC000 ≤ a.toNat →
        busRead a s = (Memory.read c.prg (16384 * (c.prgBanks - 1) + (a.toNat - 0xC000)), s))) ∧
    (∀ bank : Nat, c.mapper = .nrom ∨ c.mapper = .unrom bank → q.toNat ≤ 0x1FFF →
      ppuRead s q = Memory.read c.chr q.toNat) ∧
    (∀ bank : Nat, c.mapper = .cnrom bank → q.toNat ≤ 0x1FFF →
      ppuRead s q = Memory.read c.chr (8192 * bank + q.toNat)) ∧
    (∀ r : Mmc1, c.mapper = .mmc1 r →
      let b := r.prg.toNat % 16
      let mode := r.control.toNat / 4 % 4
      let prg0 :=
        if mode = 2 then 0 else if mode = 3 then b * 16384 % prgSize else (b - b % 2) * 16384 % prgSize
      let prg1 :=
        if mode = 2 then b * 16384 % prgSize else if mode = 3 then 16384 * (c.prgBanks - 1)
        else (b - b % 2 + 1) * 16384 % prgSize
      let even := r.chr0.toNat - r.chr0.toNat % 2
      let chr0 := (if 16 ≤ r.control.toNat then r.chr0.toNat else even) * 4096 % chrSize
      let chr1 := (if 16 ≤ r.control.toNat then r.chr1.toNat else even + 1) * 4096 % chrSize
      (0x6000 ≤ a.toNat → a.toNat ≤ 0x7FFF → busRead a s = (Memory.read r.prgRam (a.toNat - 0x6000), s)) ∧
      (0x8000 ≤ a.toNat → a.toNat ≤ 0xBFFF → busRead a s = (Memory.read c.prg (prg0 + (a.toNat - 0x8000)), s)) ∧
      (0xC000 ≤ a.toNat → busRead a s = (Memory.read c.prg (prg1 + (a.toNat - 0xC000)), s)) ∧
      (q.toNat ≤ 0x0FFF → ppuRead s q = Memory.read c.chr (chr0 + q.toNat)) ∧
      (0x1000 ≤ q.toNat → q.toNat ≤ 0x1FFF → ppuRead s q = Memory.read c.chr (chr1 + (q.toNat - 0x1000))))

/-- The serial register of mapper 1 (48 R280): a write with bit 7 set resets it and sets control bits 3:2; five writes with
bit 7 clear, the first bit lowest, latch their bits 0 into the register that the fifth address selects, and the control
register sets the mirroring too (R281). Nothing else changes. -/
def Obligations.SerialRegisterOfMapper1 : Prop :=
  ∀ (s : State) (r : Mmc1) (a1 a2 a3 a4 a5 : Addr) (v1 v2 v3 v4 v5 : Byte), s.cart.mapper = .mmc1 r →
    0x8000 ≤ a1.toNat → 0x8000 ≤ a2.toNat → 0x8000 ≤ a3.toNat → 0x8000 ≤ a4.toNat → 0x8000 ≤ a5.toNat →
    (v1.getLsbD 7 = true →
      busWrite a1 v1 s =
        { s with cart.mapper := .mmc1 { r with shift := 0, count := 0, control := r.control ||| 0x0C } }) ∧
    (r.count = 0 → v1.getLsbD 7 = false → v2.getLsbD 7 = false → v3.getLsbD 7 = false → v4.getLsbD 7 = false →
      v5.getLsbD 7 = false →
      let value : BitVec 5 :=
        BitVec.ofNat 5
          (v1.toNat % 2 + 2 * (v2.toNat % 2) + 4 * (v3.toNat % 2) + 8 * (v4.toNat % 2) + 16 * (v5.toNat % 2))
      let mirroring : Mirroring :=
        if value.toNat % 4 = 0 then .oneLo else if value.toNat % 4 = 1 then .oneHi
        else if value.toNat % 4 = 2 then .vertical else .horizontal
      busWrite a5 v5 (busWrite a4 v4 (busWrite a3 v3 (busWrite a2 v2 (busWrite a1 v1 s)))) =
        { s with
          cart.mapper :=
            .mmc1
              (if a5.toNat < 0xA000 then
                { r with shift := 0, count := 0, control := value, mirroring := mirroring }
               else if a5.toNat < 0xC000 then { r with shift := 0, count := 0, chr0 := value }
               else if a5.toNat < 0xE000 then { r with shift := 0, count := 0, chr1 := value }
               else { r with shift := 0, count := 0, prg := value }) })

/-- Bank switching of mappers 2 and 3, and none on mapper 0 (48 R275, R288, R291): a write from 0x8000 up selects the bank
`v mod` the number of banks and changes nothing else; on mapper 2 the window at 0x8000 then shows that bank and the window at
0xC000 still the last; on mapper 3 the pattern tables show that bank and the CPU's ROM is unchanged. PRG-RAM on
mapper 1 (R283): a write from 0x6000 to 0x7FFF changes only PRG-RAM, reads back, and leaves every other byte. -/
def Obligations.BankSwitching : Prop :=
  (∀ (s : State) (r : Mmc1) (a b : Addr) (v : Byte), s.cart.mapper = .mmc1 r → Memory.wf 8192 r.prgRam = true →
    0x6000 ≤ a.toNat → a.toNat ≤ 0x7FFF →
    let t := busWrite a v s
    (∃ m : Memory 8, Memory.wf 8192 m = true ∧ t = { s with cart.mapper := .mmc1 { r with prgRam := m } }) ∧
    (0x6000 ≤ b.toNat → busRead b t = (if b = a then v else (busRead b s).1, t))) ∧
  ∀ (s : State) (a b : Addr) (q : PpuAddr) (v : Byte) (bank : Nat), 0x8000 ≤ a.toNat →
    let t := busWrite a v s
    (s.cart.mapper = .nrom → t = s) ∧
    (s.cart.mapper = .unrom bank →
      t = { s with cart.mapper := .unrom (v.toNat % s.cart.prgBanks) } ∧
      (0x8000 ≤ b.toNat → b.toNat ≤ 0xBFFF →
        busRead b t =
          (Memory.read s.cart.prg (16384 * (v.toNat % s.cart.prgBanks) + (b.toNat - 0x8000)), t)) ∧
      (0xC000 ≤ b.toNat →
        busRead b t = (Memory.read s.cart.prg (16384 * (s.cart.prgBanks - 1) + (b.toNat - 0xC000)), t))) ∧
    (s.cart.mapper = .cnrom bank →
      t = { s with cart.mapper := .cnrom (v.toNat % s.cart.chrBanks) } ∧
      (q.toNat ≤ 0x1FFF →
        ppuRead t q = Memory.read s.cart.chr (8192 * (v.toNat % s.cart.chrBanks) + q.toNat)) ∧
      (0x8000 ≤ b.toNat → (busRead b t).1 = (busRead b s).1))

/-- Loading an image (48 R270): it succeeds exactly if the magic bytes are there, no trainer is present, the mapper number is
0 to 3, there is PRG-ROM and the image is as long as declared; then the arrays are the declared bytes, in order, and
without CHR-ROM the cartridge has one bank of CHR-RAM. -/
def Obligations.ImageLoading : Prop :=
  ∀ (p : Params) (bytes : List Byte),
    let byte := fun k : Nat => bytes.getD k 0
    let prgBanks := (byte 4).toNat
    let chrBanks := (byte 5).toNat
    let number := (byte 7).toNat / 16 * 16 + (byte 6).toNat / 16
    ((∃ c, loadImage p bytes = .ok c) ↔
      bytes.take 4 = [0x4E, 0x45, 0x53, 0x1A] ∧ (byte 6).getLsbD 2 = false ∧ number ≤ 3 ∧ 1 ≤ prgBanks ∧
        16 + 16384 * prgBanks + 8192 * chrBanks ≤ bytes.length) ∧
    (∀ c, loadImage p bytes = .ok c →
      c.prgBanks = prgBanks ∧ c.mapper.number = number ∧
      c.headerMirroring = (if (byte 6).getLsbD 0 = true then .v else .h) ∧ c.battery = (byte 6).getLsbD 1 ∧
      (∀ k, k < 16384 * prgBanks → Memory.read c.prg k = byte (16 + k)) ∧
      (chrBanks = 0 → c.chrIsRam = true ∧ c.chrBanks = 1 ∧ c.chr = p.initChrRam) ∧
      (chrBanks ≠ 0 → c.chrIsRam = false ∧ c.chrBanks = chrBanks ∧
        ∀ k, k < 8192 * chrBanks → Memory.read c.chr k = byte (16 + 16384 * prgBanks + k)))

/-! ### Rendering and PPU timing -/

/-- Sprites (47 R255 to R258). Sprite `n` has a pixel at a position if that lies in its box (8 columns, 8 or 16 rows, from its X
and its Y plus `SPRITE_Y_OFFSET`) and the two pattern planes, at the row and column after flipping, give a value other than 0;
its palette is attribute bits 1:0 and it is in front if bit 5 is clear. The sprite shown at a pixel is the one of lowest
index, of all 64, that has such a pixel there, whatever its priority; with sprites off there is none. -/
def Obligations.LowestSpriteWins : Prop :=
  (∀ (s : State) (x y n : Nat),
    let top := (Memory.read s.ppu.oam (4 * n)).toNat + s.params.spriteYOffset.val
    let tile := (Memory.read s.ppu.oam (4 * n + 1)).toNat
    let attr := Memory.read s.ppu.oam (4 * n + 2)
    let left := (Memory.read s.ppu.oam (4 * n + 3)).toNat
    let h := if s.ppu.ctrl.getLsbD 5 = true then 16 else 8
    let dx := if attr.getLsbD 6 = true then 7 - (x - left) else x - left
    let dy := if attr.getLsbD 7 = true then h - 1 - (y - top) else y - top
    let addr :=
      if s.ppu.ctrl.getLsbD 5 = true then 0x1000 * (tile % 2) + (tile - tile % 2 + dy / 8) * 16 + dy % 8
      else 0x1000 * (s.ppu.ctrl.toNat / 8 % 2) + tile * 16 + dy
    let plane := fun k : Nat => (ppuRead s (BitVec.ofNat 14 (addr + 8 * k))).toNat / 2 ^ (7 - dx) % 2
    let pix := 2 * plane 1 + plane 0
    spriteAt s x y n =
      (if left ≤ x ∧ x ≤ left + 7 ∧ top ≤ y ∧ y ≤ top + h - 1 ∧ pix ≠ 0 then
        some ⟨pix, attr.toNat % 4, !attr.getLsbD 5, n⟩
       else none)) ∧
  ∀ (s : State) (x y : Nat) (hit : SpriteHit),
    (spritePixel s x y = some hit ↔
      s.ppu.showSpr = true ∧ hit.index < 64 ∧ spriteAt s x y hit.index = some hit ∧
        ∀ n, n < hit.index → spriteAt s x y n = none) ∧
    (spritePixel s x y = none ↔ s.ppu.showSpr = false ∨ ∀ n, n < 64 → spriteAt s x y n = none)

/-- Rendering a pixel (47 R250 to R254, R259, R260, R263). The background pixel is that of the scrolled position in the plane of
four nametables: the tile there, its 2-bit palette number from the attribute byte, its two pattern planes; with the background
off it is (0, 0). The frame buffer entry of the pixel becomes the low 6 bits of the palette cell that the five-row table
selects; `sprite0_hit` is set if sprite 0 and the background are both opaque there and the column is not 255, and is never
cleared; every other entry and every other piece of state is unchanged. -/
def Obligations.RenderPixelEffect : Prop :=
  (∀ (s : State) (x y : Nat),
    let sx := (x + s.ppu.scrollX.toNat + 256 * (s.ppu.ctrl.toNat % 2)) % 512
    let sy := (y + s.ppu.scrollY.toNat + 240 * (s.ppu.ctrl.toNat / 2 % 2)) % 480
    let table := 0x2000 + 0x400 * (sx / 256 + 2 * (sy / 240))
    let col := sx % 256 / 8
    let row := sy % 240 / 8
    let tile := (ppuRead s (BitVec.ofNat 14 (table + row * 32 + col))).toNat
    let attr := (ppuRead s (BitVec.ofNat 14 (table + 0x3C0 + row / 4 * 8 + col / 4))).toNat
    let shift := (if row % 4 < 2 then 0 else 4) + (if col % 4 < 2 then 0 else 2)
    let addr := 0x1000 * (s.ppu.ctrl.toNat / 16 % 2) + tile * 16 + sy % 8
    let plane := fun k : Nat => (ppuRead s (BitVec.ofNat 14 (addr + 8 * k))).toNat / 2 ^ (7 - sx % 8) % 2
    backgroundPixel s x y =
      (if s.ppu.mask.getLsbD 3 = true then (2 * plane 1 + plane 0, attr / 2 ^ shift % 4) else (0, 0))) ∧
  ∀ (s : State) (x y : Nat), x ≤ 255 → y ≤ 239 → Memory.wf 61440 s.ppu.framebuffer = true →
    let t := renderPixel x y s
    let bg := backgroundPixel s x y
    let cell : Nat :=
      match spritePixel s x y with
      | none => if bg.1 = 0 then 0x3F00 else 0x3F00 + 4 * bg.2 + bg.1
      | some q =>
        if bg.1 = 0 ∨ q.front = true then 0x3F10 + 4 * q.palette + q.pix else 0x3F00 + 4 * bg.2 + bg.1
    t = { s with ppu := { s.ppu with sprite0Hit := t.ppu.sprite0Hit, framebuffer := t.ppu.framebuffer } } ∧
    (∀ k : Nat,
      Memory.read t.ppu.framebuffer k =
        if k = 256 * y + x then (ppuRead s (BitVec.ofNat 14 cell)).setWidth 6 else Memory.read s.ppu.framebuffer k) ∧
    (t.ppu.sprite0Hit = true ↔
      s.ppu.sprite0Hit = true ∨
        (s.ppu.showSpr = true ∧ (spriteAt s x y 0).isSome = true ∧ bg.1 ≠ 0 ∧ x ≠ 255))

/-- One PPU clock (46 R235, R236, R237, R238): at (241, 1) `vblank` is set and an NMI requested if enabled and none has been in
this period; at (261, 1) `vblank`, `sprite0_hit` and `nmi_fired` are cleared; then the counters advance in 341 by 262, and the
wrap completes the frame. -/
def Obligations.ClockTick : Prop :=
  ∀ s : State, s.PositionLegal →
    let t := ppuTick s
    let x := s.ppu.pixelX
    let y := s.ppu.pixelY
    let fires := s.ppu.ctrl.getLsbD 7 && !s.ppu.nmiFired
    (y = 241 ∧ x = 1 →
      t.ppu.vblank = true ∧ t.ppu.sprite0Hit = s.ppu.sprite0Hit ∧ t.ppu.nmiFired = (s.ppu.nmiFired || fires) ∧
        t.nmiPending = (s.nmiPending || fires) ∧ t.ppu.framebuffer = s.ppu.framebuffer) ∧
    (y = 261 ∧ x = 1 →
      t.ppu.vblank = false ∧ t.ppu.sprite0Hit = false ∧ t.ppu.nmiFired = false ∧ t.nmiPending = s.nmiPending ∧
        t.ppu.framebuffer = s.ppu.framebuffer) ∧
    (¬ (y = 241 ∧ x = 1) → ¬ (y = 261 ∧ x = 1) →
      t.ppu.vblank = s.ppu.vblank ∧ t.ppu.nmiFired = s.ppu.nmiFired ∧ t.nmiPending = s.nmiPending ∧
      (y ≤ 239 ∧ x ≤ 255 → t.ppu.framebuffer = (renderPixel x y s).ppu.framebuffer ∧
        t.ppu.sprite0Hit = (renderPixel x y s).ppu.sprite0Hit) ∧
      (¬ (y ≤ 239 ∧ x ≤ 255) → t.ppu.framebuffer = s.ppu.framebuffer ∧ t.ppu.sprite0Hit = s.ppu.sprite0Hit)) ∧
    t.ppu.pixelX = (x + 1) % 341 ∧
    t.ppu.pixelY = (if x = 340 then (y + 1) % 262 else y) ∧
    t.ppu.frameComplete = (s.ppu.frameComplete || decide (x = 340 ∧ y = 261)) ∧
    t.ppu.frameCount = s.ppu.frameCount + (if x = 340 ∧ y = 261 then 1 else 0) ∧
    t =
      { s with
        ppu :=
          { s.ppu with
            vblank := t.ppu.vblank
            sprite0Hit := t.ppu.sprite0Hit
            nmiFired := t.ppu.nmiFired
            pixelX := t.ppu.pixelX
            pixelY := t.ppu.pixelY
            frameComplete := t.ppu.frameComplete
            frameCount := t.ppu.frameCount
            framebuffer := t.ppu.framebuffer }
        nmiPending := t.nmiPending }

/-- The timing figures of a frame (46 R239): from the first position, `vblank` is set by tick 82182, cleared by tick 89002, and
the frame is complete with tick 89341, back at the first position, for any register contents. -/
def Obligations.FrameTiming : Prop :=
  ∀ (s : State) (n : Nat), s.ppu.pixelX = 0 → s.ppu.pixelY = 0 →
    (n ≤ 82182 → (ppuTicks n s).ppu.vblank = s.ppu.vblank) ∧
    (82182 < n → n ≤ 89002 → (ppuTicks n s).ppu.vblank = true) ∧
    (89002 < n → n ≤ 89342 → (ppuTicks n s).ppu.vblank = false) ∧
    (n < 89342 → (ppuTicks n s).ppu.frameCount = s.ppu.frameCount ∧
      (ppuTicks n s).ppu.pixelY = n / 341 ∧ (ppuTicks n s).ppu.pixelX = n % 341) ∧
    (ppuTicks 89342 s).ppu.frameCount = s.ppu.frameCount + 1 ∧ (ppuTicks 89342 s).ppu.frameComplete = true ∧
    (ppuTicks 89342 s).ppu.pixelX = 0 ∧ (ppuTicks 89342 s).ppu.pixelY = 0

/-- Once an NMI has been requested in a vblank period, nothing requests another before the clock at (261, 1): no bus write and no
other clock changes the latch or the pending bit (46 R237; 10_state.md R29; 60 R310). -/
def Obligations.OneNmiPerVblank : Prop :=
  ∀ s : State, s.ppu.nmiFired = true →
    (∀ (a : Addr) (v : Byte), (busWrite a v s).ppu.nmiFired = true ∧ (busWrite a v s).nmiPending = s.nmiPending) ∧
    (∀ a : Addr, (busRead a s).2.ppu.nmiFired = true ∧ (busRead a s).2.nmiPending = s.nmiPending) ∧
    (¬ (s.ppu.pixelY = 261 ∧ s.ppu.pixelX = 1) →
      (ppuTick s).ppu.nmiFired = true ∧ (ppuTick s).nmiPending = s.nmiPending)

/-! ### Reset and the machine step -/

/-- Reset (70 R320, R321, R322) of any machine with any cartridge: every piece of state takes its reset value, `PC` is
read from 0xFFFC and 0xFFFD, low byte first, through the reset-state banking (the last bank on mappers 1 and 2), and the
stall is `RESET_CYCLES`. -/
def Obligations.ResetValues : Prop :=
  ∀ (p : Params) (c : Cartridge),
    let vector : Nat :=
      if c.mapper.number = 0 ∨ c.mapper.number = 3 then 0x7FFC % (16384 * c.prgBanks)
      else 16384 * (c.prgBanks - 1) + 0x3FFC
    let header : Mirroring := match c.headerMirroring with | .h => .horizontal | .v => .vertical
    machineReset p c =
      { a := 0x00, x := 0x00, y := 0x00, sp := 0xFD, p := 0x24
        pc := BitVec.ofNat 16 (256 * (Memory.read c.prg (vector + 1)).toNat + (Memory.read c.prg vector).toNat)
        nmiPending := false, stallCycles := p.resetCycles, cpuCycles := 0, fault := none
        ram := p.initRam
        ppu :=
          { ctrl := 0x00, mask := 0x00, vblank := false, sprite0Hit := false, oamAddr := 0x00, w := false
            vramAddr := 0x0000, dataBuffer := 0x00, scrollX := 0x00, scrollY := 0x00, pixelX := 0, pixelY := 0
            nmiFired := false, frameComplete := false, frameCount := 0, framebuffer := []
            vram := p.initVram, oam := p.initOam }
        pads := { pad0 := ⟨0x00, 0x00⟩, pad1 := ⟨0x00, 0x00⟩, strobe := false }
        cart :=
          { c with
            chr := if c.chrIsRam = true then p.initChrRam else c.chr
            mapper :=
              match c.mapper with
              | .nrom => .nrom
              | .mmc1 _ =>
                .mmc1
                  { shift := 0, count := 0, control := 0x0C, chr0 := 0, chr1 := 0, prg := 0
                    mirroring := header, prgRam := p.initPrgRam }
              | .unrom _ => .unrom 0
              | .cnrom _ => .cnrom 0 }
        params := p }

/-- The state `State.reset` is the reset (R320) of the default parameters and of the blank cartridge, which is the model's
choice (log entry 1), and satisfies the invariant. -/
def Obligations.BlankMachineReset : Prop :=
  State.reset = machineReset {} Cartridge.blank ∧ State.reset.Inv

/-- Every machine that loading an image and resetting yields satisfies the invariant, whatever the image, for initial
memories of their sizes (48 R270; 70 R320). -/
def Obligations.LoadedMachineIsLegal : Prop :=
  ∀ (p : Params) (bytes : List Byte) (s : State), ParamsLegal p → loadRom p bytes = .ok s → s.Inv

/-- A step runs the decoded instruction: in a state with nothing outstanding, if the bytes read from `PC` on are the
encoding of a well-formed instruction, the step is that instruction on the state after those reads, then three PPU
clocks per cycle that it took (R110, R326). -/
def Obligations.StepRunsTheInstruction : Prop :=
  ∀ (s : State) (i : Instr), s.Ready → i.wellFormed = true → (readCode i.length s).1 = encode i →
    ∃ t, exec i (readCode i.length s).2 = .next t ∧
      step s = .next (ppuTicks (3 * (t.cpuCycles - s.cpuCycles)) t)

/-- Instruction bytes in RAM, PRG-RAM or PRG-ROM are read in ascending order, `PC` ends after them (modulo 65536), and nothing
else changes (30 R91, R96; 20 R73). -/
def Obligations.FetchFromMemory : Prop :=
  ∀ (n : Nat) (s : State), (∀ k, k < n → holdsCode s (s.pc + BitVec.ofNat 16 k) = true) →
    readCode n s =
      ((List.range n).map (fun k => (busRead (s.pc + BitVec.ofNat 16 k) s).1),
       { s with pc := BitVec.ofNat 16 (s.pc.toNat + n) })

/-- The CPU actions that are no instruction, in their order (60 R305, R306; 70 R326). A stall is served first, in one step of
all its cycles that changes nothing else but the PPU. With no stall outstanding a pending NMI is entered: it pushes `PC` high,
`PC` low and `(P & 0xEF) | 0x20`, sets InterruptDisable, clears the request, loads `PC` from 0xFFFA and 0xFFFB, takes
`NMI_CYCLES`, and changes nothing else. The PPU then advances three clocks per cycle. -/
def Obligations.StallThenNmi : Prop :=
  ∀ s : State, s.fault = none → s.cart.inRange = true →
    (s.stallCycles ≠ 0 →
      step s =
        .next
          (ppuTicks (3 * s.stallCycles) { s with stallCycles := 0, cpuCycles := s.cpuCycles + s.stallCycles })) ∧
    (s.stallCycles = 0 → s.nmiPending = true →
      let vector := fun a : Addr => (Memory.read s.cart.prg (s.cart.prgIndex a)).toNat
      step s =
        .next
          (ppuTicks (3 * s.params.nmiCycles)
            { s with
              nmiPending := false
              ram :=
                Memory.write
                  (Memory.write
                    (Memory.write s.ram (0x100 + s.sp.toNat) (BitVec.ofNat 8 (s.pc.toNat / 256)))
                    (0x100 + (s.sp - 1).toNat) (BitVec.ofNat 8 (s.pc.toNat % 256)))
                  (0x100 + (s.sp - 2).toNat) ((s.p &&& 0xEF) ||| 0x20)
              sp := s.sp - 3
              p := s.p ||| 0x04
              pc := BitVec.ofNat 16 (256 * vector 0xFFFB + vector 0xFFFA)
              cpuCycles := s.cpuCycles + s.params.nmiCycles }))

/-- What stops the machine (60 R301, R306): a faulted state has no step; every other state of a loaded cartridge has one,
and it is faulted afterwards only if it fetched an undefined opcode under the policy `fault`, the fault then naming that
byte and its address. (That a state with a cartridge that no load yields is refused is the model's choice, log entry 8.) -/
def Obligations.OnlyUndefinedOpcodesStop : Prop :=
  ∀ s : State,
    (∀ r, s.fault = some r → step s = .fault r) ∧
    (s.fault = none → s.cart.inRange = false → step s = .refused .noSuchCartridge) ∧
    (s.fault = none → s.cart.inRange = true →
      ∃ t, step s = .next t ∧
        (t.fault = none ∨
          (s.stallCycles = 0 ∧ s.nmiPending = false ∧ s.params.illegalOpcodePolicy = .fault ∧
            isUndefinedOpcode (busRead s.pc s).1 = true ∧
            t.fault = some (.illegalOpcode (busRead s.pc s).1 s.pc) ∧ t.pc = s.pc + 1 ∧
            t.cpuCycles = s.cpuCycles)))

/-- The PPU advances three clocks for every CPU cycle of a step, no more and no fewer, frames included (70 R326; 46 R235, R238). -/
def Obligations.ThreeClocksPerCycle : Prop :=
  ∀ s t : State, s.PositionLegal → step s = .next t →
    s.cpuCycles ≤ t.cpuCycles ∧ t.PositionLegal ∧
    89342 * t.ppu.frameCount + 341 * t.ppu.pixelY + t.ppu.pixelX =
      89342 * s.ppu.frameCount + 341 * s.ppu.pixelY + s.ppu.pixelX + 3 * (t.cpuCycles - s.cpuCycles)

/-- Every step keeps the invariant: the Unused and Break bits of `P`, the ranges of the pixel counters and of the bank
registers, the canonical form and size of every memory, the NMI latch, and the absence of faults under `nop`. -/
def Obligations.StepKeepsInvariant : Prop :=
  ∀ s t : State, s.Inv → step s = .next t → t.Inv
end

