-- ==== Sys2Proof/Laws/Memory.lean ====
section
/-! SUPPORT. The laws of a memory: what a read gives after a write, and that every memory operation keeps the canonical
form. -/

namespace Sys2Proof.Machine

variable {w : Nat}

theorem Memory.wfFrom_mono {size : Nat} {m : Memory w} {low high : Nat} (hl : low ≤ high)
    (h : Memory.wfFrom size high m = true) : Memory.wfFrom size low m = true := by
  cases m with
  | nil => rfl
  | cons c rest =>
    simp only [Memory.wfFrom, Bool.and_eq_true, decide_eq_true_eq] at h ⊢
    exact ⟨⟨⟨by omega, h.1.1.2⟩, h.1.2⟩, h.2⟩

/-- A canonical memory reads as blank below its first address. -/
theorem Memory.read_below {size : Nat} {m : Memory w} {low k : Nat} (h : Memory.wfFrom size low m = true)
    (hk : k < low) : Memory.read m k = Memory.blank := by
  cases m with
  | nil => rfl
  | cons c rest =>
    simp only [Memory.wfFrom, Bool.and_eq_true, decide_eq_true_eq] at h
    simp [Memory.read, show k < c.1 by omega]

/-- A canonical memory reads as blank outside its size. -/
theorem Memory.read_outside {size : Nat} {m : Memory w} {low k : Nat} (h : Memory.wfFrom size low m = true)
    (hk : size ≤ k) : Memory.read m k = Memory.blank := by
  induction m generalizing low with
  | nil => rfl
  | cons c rest ih =>
    simp only [Memory.wfFrom, Bool.and_eq_true, decide_eq_true_eq] at h
    simp [Memory.read, show ¬ k < c.1 by omega, show k ≠ c.1 by omega, ih h.2]

theorem Memory.wfFrom_cell {size low k : Nat} {v : BitVec w} {m : Memory w} (hl : low ≤ k) (hk : k < size)
    (h : Memory.wfFrom size (k + 1) m = true) : Memory.wfFrom size low (Memory.cell k v m) = true := by
  unfold Memory.cell
  split
  · exact Memory.wfFrom_mono (by omega) h
  · next hv =>
    simp only [Memory.wfFrom, Bool.and_eq_true, decide_eq_true_eq]
    exact ⟨⟨⟨hl, hk⟩, hv⟩, h⟩

theorem Memory.wfFrom_write {size low k : Nat} {v : BitVec w} {m : Memory w} (hl : low ≤ k) (hk : k < size)
    (h : Memory.wfFrom size low m = true) : Memory.wfFrom size low (Memory.write m k v) = true := by
  induction m generalizing low with
  | nil => exact Memory.wfFrom_cell hl hk rfl
  | cons c rest ih =>
    obtain ⟨a, u⟩ := c
    simp only [Memory.wfFrom, Bool.and_eq_true, decide_eq_true_eq] at h
    unfold Memory.write
    split
    · refine Memory.wfFrom_cell hl hk ?_
      simp only [Memory.wfFrom, Bool.and_eq_true, decide_eq_true_eq]
      exact ⟨⟨⟨by omega, h.1.1.2⟩, h.1.2⟩, h.2⟩
    · split
      · next h1 h2 => subst h2; exact Memory.wfFrom_cell hl hk h.2
      · next h1 h2 =>
        simp only [Memory.wfFrom, Bool.and_eq_true, decide_eq_true_eq]
        exact ⟨⟨⟨h.1.1.1, h.1.1.2⟩, h.1.2⟩, ih (by omega) h.2⟩

/-- A write keeps the canonical form. -/
theorem Memory.wf_write {size k : Nat} {v : BitVec w} {m : Memory w} (hk : k < size)
    (h : Memory.wf size m = true) : Memory.wf size (Memory.write m k v) = true :=
  Memory.wfFrom_write (Nat.zero_le _) hk h

/-- The memory with nothing listed is canonical. -/
@[simp] theorem Memory.wf_nil {size : Nat} : Memory.wf size ([] : Memory w) = true := rfl

@[simp] theorem Memory.read_nil {k : Nat} : Memory.read ([] : Memory w) k = Memory.blank := rfl

theorem Memory.read_cell_same {size k : Nat} {v : BitVec w} {m : Memory w}
    (h : Memory.wfFrom size (k + 1) m = true) : Memory.read (Memory.cell k v m) k = v := by
  unfold Memory.cell
  split
  · next hv => rw [hv]; exact Memory.read_below h (by omega)
  · simp [Memory.read]

theorem Memory.read_cell_other {k j : Nat} {v : BitVec w} {m : Memory w} {size : Nat} (hj : j ≠ k)
    (h : Memory.wfFrom size (k + 1) m = true) : Memory.read (Memory.cell k v m) j = Memory.read m j := by
  unfold Memory.cell
  split
  · rfl
  · by_cases hlt : j < k
    · simp [Memory.read, hlt, Memory.read_below h (show j < k + 1 by omega)]
    · simp [Memory.read, hlt, hj]

theorem Memory.read_write_same_from {size low k : Nat} {v : BitVec w} {m : Memory w}
    (h : Memory.wfFrom size low m = true) : Memory.read (Memory.write m k v) k = v := by
  induction m generalizing low with
  | nil => exact Memory.read_cell_same (size := size) rfl
  | cons c rest ih =>
    obtain ⟨a, u⟩ := c
    simp only [Memory.wfFrom, Bool.and_eq_true, decide_eq_true_eq] at h
    unfold Memory.write
    split
    · refine Memory.read_cell_same (size := size) ?_
      simp only [Memory.wfFrom, Bool.and_eq_true, decide_eq_true_eq]
      exact ⟨⟨⟨by omega, h.1.1.2⟩, h.1.2⟩, h.2⟩
    · split
      · next h1 h2 => subst h2; exact Memory.read_cell_same h.2
      · next h1 h2 => simp [Memory.read, h1, h2, ih h.2]

theorem Memory.read_write_other_from {size low k j : Nat} {v : BitVec w} {m : Memory w} (hj : j ≠ k)
    (h : Memory.wfFrom size low m = true) : Memory.read (Memory.write m k v) j = Memory.read m j := by
  induction m generalizing low with
  | nil => exact Memory.read_cell_other (size := size) hj rfl
  | cons c rest ih =>
    obtain ⟨a, u⟩ := c
    simp only [Memory.wfFrom, Bool.and_eq_true, decide_eq_true_eq] at h
    unfold Memory.write
    split
    · refine Memory.read_cell_other (size := size) hj ?_
      simp only [Memory.wfFrom, Bool.and_eq_true, decide_eq_true_eq]
      exact ⟨⟨⟨by omega, h.1.1.2⟩, h.1.2⟩, h.2⟩
    · split
      · next h1 h2 =>
        subst h2
        rw [Memory.read_cell_other hj h.2]
        by_cases hlt : j < k
        · simp [Memory.read, hlt, Memory.read_below h.2 (show j < k + 1 by omega)]
        · simp [Memory.read, hlt, hj]
      · next h1 h2 => simp [Memory.read, ih h.2]

/-- A read after a write to the same address gives the value written. -/
theorem Memory.read_write_same {size k : Nat} {v : BitVec w} {m : Memory w} (h : Memory.wf size m = true) :
    Memory.read (Memory.write m k v) k = v :=
  Memory.read_write_same_from h

/-- A write leaves every other address alone. -/
theorem Memory.read_write_other {size k j : Nat} {v : BitVec w} {m : Memory w} (hj : j ≠ k)
    (h : Memory.wf size m = true) : Memory.read (Memory.write m k v) j = Memory.read m j :=
  Memory.read_write_other_from hj h

theorem Memory.wfFrom_ofBytesFrom {k size : Nat} {bytes : List Byte} (h : k + bytes.length ≤ size) :
    Memory.wfFrom size k (Memory.ofBytesFrom k bytes) = true := by
  induction bytes generalizing k with
  | nil => rfl
  | cons b rest ih =>
    simp only [List.length_cons] at h
    exact Memory.wfFrom_cell (Nat.le_refl _) (by omega) (ih (by omega))

/-- The memory of a string of bytes is canonical. -/
theorem Memory.wf_ofBytes {size : Nat} {bytes : List Byte} (h : bytes.length ≤ size) :
    Memory.wf size (Memory.ofBytes bytes) = true :=
  Memory.wfFrom_ofBytesFrom (by omega)

theorem Memory.read_ofBytesFrom {k j : Nat} {bytes : List Byte} (h : k ≤ j) :
    Memory.read (Memory.ofBytesFrom k bytes) j = bytes.getD (j - k) 0 := by
  induction bytes generalizing k with
  | nil => simp [Memory.ofBytesFrom, Memory.blank]
  | cons b rest ih =>
    have hw : Memory.wfFrom (k + 1 + rest.length) (k + 1) (Memory.ofBytesFrom (k + 1) rest) = true :=
      Memory.wfFrom_ofBytesFrom (Nat.le_refl _)
    by_cases hj : j = k
    · subst hj
      simpa [Memory.ofBytesFrom] using Memory.read_cell_same hw
    · rw [Memory.ofBytesFrom, Memory.read_cell_other hj hw, ih (by omega), show j - k = (j - (k + 1)) + 1 by omega]
      simp

/-- The memory of a string of bytes reads as the string. -/
theorem Memory.read_ofBytes {j : Nat} {bytes : List Byte} : Memory.read (Memory.ofBytes bytes) j = bytes.getD j 0 := by
  simpa [Memory.ofBytes] using Memory.read_ofBytesFrom (k := 0) (j := j) (bytes := bytes) (Nat.zero_le _)

end Sys2Proof.Machine
end

