-- ==== Sys2Proof/Laws/Cartridge.lean ====
section
/-! SUPPORT. The laws of the cartridge: which addresses it claims, that its indexes stay inside its arrays, and that a
claimed write keeps a legal cartridge legal. -/

namespace Sys2Proof.Machine

/-- No mapper claims a CPU read below 0x6000 (48 R295(c)). -/
theorem Cartridge.cpuRead_low (c : Cartridge) {a : Addr} (h : a.toNat < 0x6000) : c.cpuRead a = none := by
  unfold Cartridge.cpuRead
  simp only [show ¬ 0x8000 ≤ a.toNat by omega, if_false]
  split
  · simp [show ¬ 0x6000 ≤ a.toNat by omega]
  all_goals rfl

/-- No mapper claims a CPU write below 0x6000 (48 R295(c)). -/
theorem Cartridge.cpuWrite_low (c : Cartridge) {a : Addr} (v : Byte) (h : a.toNat < 0x6000) :
    c.cpuWrite a v = none := by
  unfold Cartridge.cpuWrite
  simp only [show ¬ 0x8000 ≤ a.toNat by omega, show ¬ 0x6000 ≤ a.toNat by omega, if_false]
  split <;> rfl

/-- Every mapper claims a CPU read at 0x8000 and above. -/
theorem Cartridge.cpuRead_high (c : Cartridge) {a : Addr} (h : 0x8000 ≤ a.toNat) :
    c.cpuRead a = some (Memory.read c.prg (c.prgIndex a)) := by
  simp [Cartridge.cpuRead, h]

/-- A claimed CPU write changes nothing but the mapper. -/
theorem Cartridge.cpuWrite_frame {c d : Cartridge} {a : Addr} {v : Byte} (h : c.cpuWrite a v = some d) :
    ∃ m : Mapper, d = { c with mapper := m } := by
  unfold Cartridge.cpuWrite at h
  split at h
  · cases h
  · split at h
    · exact ⟨_, (Option.some.inj h).symm⟩
    · split at h
      · exact ⟨_, (Option.some.inj h).symm⟩
      · cases h
  · split at h
    · exact ⟨_, (Option.some.inj h).symm⟩
    · cases h
  · split at h
    · exact ⟨_, (Option.some.inj h).symm⟩
    · cases h

/-- A claimed PPU write changes nothing but `chr`. -/
theorem Cartridge.ppuWrite_frame {c d : Cartridge} {a : PpuAddr} {v : Byte} (h : c.ppuWrite a v = some d) :
    d = { c with chr := Memory.write c.chr (c.chrIndex a) v } ∧ a.toNat ≤ 0x1FFF ∧ c.chrIsRam = true := by
  unfold Cartridge.ppuWrite at h
  split at h
  · next hc => exact ⟨(Option.some.inj h).symm, hc⟩
  · cases h

/-- The serial register write leaves the count at 4 or less, and PRG-RAM unchanged. -/
theorem Mmc1.serialWrite_frame (r : Mmc1) (a : Addr) (v : Byte) (h : r.count ≤ 4) :
    (r.serialWrite a v).count ≤ 4 ∧ (r.serialWrite a v).prgRam = r.prgRam := by
  unfold Mmc1.serialWrite
  dsimp only
  split
  · exact ⟨Nat.zero_le _, rfl⟩
  · split
    · unfold Mmc1.latch
      dsimp only
      split <;> exact ⟨Nat.zero_le _, rfl⟩
    · next hc => exact ⟨show r.count + 1 ≤ 4 by omega, rfl⟩

/-- A claimed CPU write keeps a legal cartridge legal. -/
theorem Cartridge.cpuWrite_legal {c d : Cartridge} {a : Addr} {v : Byte} (hc : c.Legal)
    (h : c.cpuWrite a v = some d) : d.Legal := by
  obtain ⟨hr, hp, hk, hm⟩ := hc
  have hn : 1 ≤ c.prgBanks ∧ 1 ≤ c.chrBanks := by
    simp only [Cartridge.inRange, Bool.and_eq_true, decide_eq_true_eq] at hr
    exact ⟨hr.1.1.1.1.1, hr.1.1.1.2⟩
  have key : ∀ m : Mapper, ({ c with mapper := m } : Cartridge).mapperInRange = true → m.prgRamLegal = true →
      ({ c with mapper := m } : Cartridge).Legal := by
    intro m h1 h2
    refine ⟨?_, hp, hk, h2⟩
    simp only [Cartridge.inRange, Bool.and_eq_true] at hr ⊢
    exact ⟨hr.1, h1⟩
  unfold Cartridge.cpuWrite at h
  split at h
  · cases h
  · next r he =>
    have hcount : r.count ≤ 4 := by
      simp only [Cartridge.inRange, Bool.and_eq_true, Cartridge.mapperInRange, he, decide_eq_true_eq] at hr
      exact hr.2
    have hram : Memory.wf 8192 r.prgRam = true := by simpa [he, Mapper.prgRamLegal] using hm
    split at h
    · obtain rfl := Option.some.inj h
      have hs := r.serialWrite_frame a v hcount
      refine key _ ?_ ?_
      · simpa [Cartridge.mapperInRange] using hs.1
      · simpa [Mapper.prgRamLegal, hs.2] using hram
    · split at h
      · obtain rfl := Option.some.inj h
        refine key _ ?_ ?_
        · simpa [Cartridge.mapperInRange] using hcount
        · exact Memory.wf_write (by omega) hram
      · cases h
  · split at h
    · obtain rfl := Option.some.inj h
      refine key _ ?_ rfl
      simpa [Cartridge.mapperInRange] using Nat.mod_lt _ (by omega)
    · cases h
  · split at h
    · obtain rfl := Option.some.inj h
      refine key _ ?_ rfl
      simpa [Cartridge.mapperInRange] using Nat.mod_lt _ (by omega)
    · cases h

end Sys2Proof.Machine
end

