-- ==== Sys2Proof/Laws/State.lean ====
section
/-! SUPPORT. One lemma per field of `State` per update, true by `rfl` and tagged `@[simp]`, so that no later proof unfolds
a record update; and how the flags of `P` read after an update. -/

namespace Sys2Proof.Machine

/-! ### `State.setFlag` -/

@[simp] theorem State.setFlag_a (f : Flag) (b : Bool) (s : State) : (State.setFlag f b s).a = s.a := rfl
@[simp] theorem State.setFlag_x (f : Flag) (b : Bool) (s : State) : (State.setFlag f b s).x = s.x := rfl
@[simp] theorem State.setFlag_y (f : Flag) (b : Bool) (s : State) : (State.setFlag f b s).y = s.y := rfl
@[simp] theorem State.setFlag_sp (f : Flag) (b : Bool) (s : State) : (State.setFlag f b s).sp = s.sp := rfl
@[simp] theorem State.setFlag_pc (f : Flag) (b : Bool) (s : State) : (State.setFlag f b s).pc = s.pc := rfl
@[simp] theorem State.setFlag_p (f : Flag) (b : Bool) (s : State) : (State.setFlag f b s).p = putFlag f b s.p := rfl
@[simp] theorem State.setFlag_nmiPending (f : Flag) (b : Bool) (s : State) :
    (State.setFlag f b s).nmiPending = s.nmiPending := rfl
@[simp] theorem State.setFlag_stallCycles (f : Flag) (b : Bool) (s : State) :
    (State.setFlag f b s).stallCycles = s.stallCycles := rfl
@[simp] theorem State.setFlag_cpuCycles (f : Flag) (b : Bool) (s : State) :
    (State.setFlag f b s).cpuCycles = s.cpuCycles := rfl
@[simp] theorem State.setFlag_fault (f : Flag) (b : Bool) (s : State) : (State.setFlag f b s).fault = s.fault := rfl
@[simp] theorem State.setFlag_ram (f : Flag) (b : Bool) (s : State) : (State.setFlag f b s).ram = s.ram := rfl
@[simp] theorem State.setFlag_ppu (f : Flag) (b : Bool) (s : State) : (State.setFlag f b s).ppu = s.ppu := rfl
@[simp] theorem State.setFlag_pads (f : Flag) (b : Bool) (s : State) : (State.setFlag f b s).pads = s.pads := rfl
@[simp] theorem State.setFlag_cart (f : Flag) (b : Bool) (s : State) : (State.setFlag f b s).cart = s.cart := rfl
@[simp] theorem State.setFlag_params (f : Flag) (b : Bool) (s : State) :
    (State.setFlag f b s).params = s.params := rfl

/-! ### `State.setZN` -/

@[simp] theorem State.setZN_a (v : Byte) (s : State) : (State.setZN v s).a = s.a := rfl
@[simp] theorem State.setZN_x (v : Byte) (s : State) : (State.setZN v s).x = s.x := rfl
@[simp] theorem State.setZN_y (v : Byte) (s : State) : (State.setZN v s).y = s.y := rfl
@[simp] theorem State.setZN_sp (v : Byte) (s : State) : (State.setZN v s).sp = s.sp := rfl
@[simp] theorem State.setZN_pc (v : Byte) (s : State) : (State.setZN v s).pc = s.pc := rfl
@[simp] theorem State.setZN_p (v : Byte) (s : State) :
    (State.setZN v s).p = putFlag .negative (v.getLsbD 7) (putFlag .zero (decide (v = 0x00)) s.p) := rfl
@[simp] theorem State.setZN_nmiPending (v : Byte) (s : State) : (State.setZN v s).nmiPending = s.nmiPending := rfl
@[simp] theorem State.setZN_stallCycles (v : Byte) (s : State) : (State.setZN v s).stallCycles = s.stallCycles := rfl
@[simp] theorem State.setZN_cpuCycles (v : Byte) (s : State) : (State.setZN v s).cpuCycles = s.cpuCycles := rfl
@[simp] theorem State.setZN_fault (v : Byte) (s : State) : (State.setZN v s).fault = s.fault := rfl
@[simp] theorem State.setZN_ram (v : Byte) (s : State) : (State.setZN v s).ram = s.ram := rfl
@[simp] theorem State.setZN_ppu (v : Byte) (s : State) : (State.setZN v s).ppu = s.ppu := rfl
@[simp] theorem State.setZN_pads (v : Byte) (s : State) : (State.setZN v s).pads = s.pads := rfl
@[simp] theorem State.setZN_cart (v : Byte) (s : State) : (State.setZN v s).cart = s.cart := rfl
@[simp] theorem State.setZN_params (v : Byte) (s : State) : (State.setZN v s).params = s.params := rfl

/-! ### `State.compareFlags` -/

@[simp] theorem State.compareFlags_a (r m : Byte) (s : State) : (State.compareFlags r m s).a = s.a := rfl
@[simp] theorem State.compareFlags_x (r m : Byte) (s : State) : (State.compareFlags r m s).x = s.x := rfl
@[simp] theorem State.compareFlags_y (r m : Byte) (s : State) : (State.compareFlags r m s).y = s.y := rfl
@[simp] theorem State.compareFlags_sp (r m : Byte) (s : State) : (State.compareFlags r m s).sp = s.sp := rfl
@[simp] theorem State.compareFlags_pc (r m : Byte) (s : State) : (State.compareFlags r m s).pc = s.pc := rfl
@[simp] theorem State.compareFlags_nmiPending (r m : Byte) (s : State) :
    (State.compareFlags r m s).nmiPending = s.nmiPending := rfl
@[simp] theorem State.compareFlags_stallCycles (r m : Byte) (s : State) :
    (State.compareFlags r m s).stallCycles = s.stallCycles := rfl
@[simp] theorem State.compareFlags_cpuCycles (r m : Byte) (s : State) :
    (State.compareFlags r m s).cpuCycles = s.cpuCycles := rfl
@[simp] theorem State.compareFlags_fault (r m : Byte) (s : State) : (State.compareFlags r m s).fault = s.fault := rfl
@[simp] theorem State.compareFlags_ram (r m : Byte) (s : State) : (State.compareFlags r m s).ram = s.ram := rfl
@[simp] theorem State.compareFlags_ppu (r m : Byte) (s : State) : (State.compareFlags r m s).ppu = s.ppu := rfl
@[simp] theorem State.compareFlags_pads (r m : Byte) (s : State) : (State.compareFlags r m s).pads = s.pads := rfl
@[simp] theorem State.compareFlags_cart (r m : Byte) (s : State) : (State.compareFlags r m s).cart = s.cart := rfl
@[simp] theorem State.compareFlags_params (r m : Byte) (s : State) :
    (State.compareFlags r m s).params = s.params := rfl

/-! ### `State.bitFlags` -/

@[simp] theorem State.bitFlags_a (m : Byte) (s : State) : (State.bitFlags m s).a = s.a := rfl
@[simp] theorem State.bitFlags_x (m : Byte) (s : State) : (State.bitFlags m s).x = s.x := rfl
@[simp] theorem State.bitFlags_y (m : Byte) (s : State) : (State.bitFlags m s).y = s.y := rfl
@[simp] theorem State.bitFlags_sp (m : Byte) (s : State) : (State.bitFlags m s).sp = s.sp := rfl
@[simp] theorem State.bitFlags_pc (m : Byte) (s : State) : (State.bitFlags m s).pc = s.pc := rfl
@[simp] theorem State.bitFlags_nmiPending (m : Byte) (s : State) :
    (State.bitFlags m s).nmiPending = s.nmiPending := rfl
@[simp] theorem State.bitFlags_stallCycles (m : Byte) (s : State) :
    (State.bitFlags m s).stallCycles = s.stallCycles := rfl
@[simp] theorem State.bitFlags_cpuCycles (m : Byte) (s : State) : (State.bitFlags m s).cpuCycles = s.cpuCycles := rfl
@[simp] theorem State.bitFlags_fault (m : Byte) (s : State) : (State.bitFlags m s).fault = s.fault := rfl
@[simp] theorem State.bitFlags_ram (m : Byte) (s : State) : (State.bitFlags m s).ram = s.ram := rfl
@[simp] theorem State.bitFlags_ppu (m : Byte) (s : State) : (State.bitFlags m s).ppu = s.ppu := rfl
@[simp] theorem State.bitFlags_pads (m : Byte) (s : State) : (State.bitFlags m s).pads = s.pads := rfl
@[simp] theorem State.bitFlags_cart (m : Byte) (s : State) : (State.bitFlags m s).cart = s.cart := rfl
@[simp] theorem State.bitFlags_params (m : Byte) (s : State) : (State.bitFlags m s).params = s.params := rfl

/-! ### `State.addWithCarry` -/

@[simp] theorem State.addWithCarry_a (m : Byte) (s : State) :
    (State.addWithCarry m s).a = sumByte s.a m (s.flag .carry) := rfl
@[simp] theorem State.addWithCarry_x (m : Byte) (s : State) : (State.addWithCarry m s).x = s.x := rfl
@[simp] theorem State.addWithCarry_y (m : Byte) (s : State) : (State.addWithCarry m s).y = s.y := rfl
@[simp] theorem State.addWithCarry_sp (m : Byte) (s : State) : (State.addWithCarry m s).sp = s.sp := rfl
@[simp] theorem State.addWithCarry_pc (m : Byte) (s : State) : (State.addWithCarry m s).pc = s.pc := rfl
@[simp] theorem State.addWithCarry_nmiPending (m : Byte) (s : State) :
    (State.addWithCarry m s).nmiPending = s.nmiPending := rfl
@[simp] theorem State.addWithCarry_stallCycles (m : Byte) (s : State) :
    (State.addWithCarry m s).stallCycles = s.stallCycles := rfl
@[simp] theorem State.addWithCarry_cpuCycles (m : Byte) (s : State) :
    (State.addWithCarry m s).cpuCycles = s.cpuCycles := rfl
@[simp] theorem State.addWithCarry_fault (m : Byte) (s : State) : (State.addWithCarry m s).fault = s.fault := rfl
@[simp] theorem State.addWithCarry_ram (m : Byte) (s : State) : (State.addWithCarry m s).ram = s.ram := rfl
@[simp] theorem State.addWithCarry_ppu (m : Byte) (s : State) : (State.addWithCarry m s).ppu = s.ppu := rfl
@[simp] theorem State.addWithCarry_pads (m : Byte) (s : State) : (State.addWithCarry m s).pads = s.pads := rfl
@[simp] theorem State.addWithCarry_cart (m : Byte) (s : State) : (State.addWithCarry m s).cart = s.cart := rfl
@[simp] theorem State.addWithCarry_params (m : Byte) (s : State) : (State.addWithCarry m s).params = s.params := rfl

/-! ### `loadA` -/

@[simp] theorem loadA_a (m : Byte) (s : State) : (loadA m s).a = m := rfl
@[simp] theorem loadA_x (m : Byte) (s : State) : (loadA m s).x = s.x := rfl
@[simp] theorem loadA_y (m : Byte) (s : State) : (loadA m s).y = s.y := rfl
@[simp] theorem loadA_sp (m : Byte) (s : State) : (loadA m s).sp = s.sp := rfl
@[simp] theorem loadA_pc (m : Byte) (s : State) : (loadA m s).pc = s.pc := rfl
@[simp] theorem loadA_p (m : Byte) (s : State) : (loadA m s).p = (s.setZN m).p := rfl
@[simp] theorem loadA_nmiPending (m : Byte) (s : State) : (loadA m s).nmiPending = s.nmiPending := rfl
@[simp] theorem loadA_stallCycles (m : Byte) (s : State) : (loadA m s).stallCycles = s.stallCycles := rfl
@[simp] theorem loadA_cpuCycles (m : Byte) (s : State) : (loadA m s).cpuCycles = s.cpuCycles := rfl
@[simp] theorem loadA_fault (m : Byte) (s : State) : (loadA m s).fault = s.fault := rfl
@[simp] theorem loadA_ram (m : Byte) (s : State) : (loadA m s).ram = s.ram := rfl
@[simp] theorem loadA_ppu (m : Byte) (s : State) : (loadA m s).ppu = s.ppu := rfl
@[simp] theorem loadA_pads (m : Byte) (s : State) : (loadA m s).pads = s.pads := rfl
@[simp] theorem loadA_cart (m : Byte) (s : State) : (loadA m s).cart = s.cart := rfl
@[simp] theorem loadA_params (m : Byte) (s : State) : (loadA m s).params = s.params := rfl

/-! ### `loadX` -/

@[simp] theorem loadX_a (m : Byte) (s : State) : (loadX m s).a = s.a := rfl
@[simp] theorem loadX_x (m : Byte) (s : State) : (loadX m s).x = m := rfl
@[simp] theorem loadX_y (m : Byte) (s : State) : (loadX m s).y = s.y := rfl
@[simp] theorem loadX_sp (m : Byte) (s : State) : (loadX m s).sp = s.sp := rfl
@[simp] theorem loadX_pc (m : Byte) (s : State) : (loadX m s).pc = s.pc := rfl
@[simp] theorem loadX_p (m : Byte) (s : State) : (loadX m s).p = (s.setZN m).p := rfl
@[simp] theorem loadX_nmiPending (m : Byte) (s : State) : (loadX m s).nmiPending = s.nmiPending := rfl
@[simp] theorem loadX_stallCycles (m : Byte) (s : State) : (loadX m s).stallCycles = s.stallCycles := rfl
@[simp] theorem loadX_cpuCycles (m : Byte) (s : State) : (loadX m s).cpuCycles = s.cpuCycles := rfl
@[simp] theorem loadX_fault (m : Byte) (s : State) : (loadX m s).fault = s.fault := rfl
@[simp] theorem loadX_ram (m : Byte) (s : State) : (loadX m s).ram = s.ram := rfl
@[simp] theorem loadX_ppu (m : Byte) (s : State) : (loadX m s).ppu = s.ppu := rfl
@[simp] theorem loadX_pads (m : Byte) (s : State) : (loadX m s).pads = s.pads := rfl
@[simp] theorem loadX_cart (m : Byte) (s : State) : (loadX m s).cart = s.cart := rfl
@[simp] theorem loadX_params (m : Byte) (s : State) : (loadX m s).params = s.params := rfl

/-! ### `loadY` -/

@[simp] theorem loadY_a (m : Byte) (s : State) : (loadY m s).a = s.a := rfl
@[simp] theorem loadY_x (m : Byte) (s : State) : (loadY m s).x = s.x := rfl
@[simp] theorem loadY_y (m : Byte) (s : State) : (loadY m s).y = m := rfl
@[simp] theorem loadY_sp (m : Byte) (s : State) : (loadY m s).sp = s.sp := rfl
@[simp] theorem loadY_pc (m : Byte) (s : State) : (loadY m s).pc = s.pc := rfl
@[simp] theorem loadY_p (m : Byte) (s : State) : (loadY m s).p = (s.setZN m).p := rfl
@[simp] theorem loadY_nmiPending (m : Byte) (s : State) : (loadY m s).nmiPending = s.nmiPending := rfl
@[simp] theorem loadY_stallCycles (m : Byte) (s : State) : (loadY m s).stallCycles = s.stallCycles := rfl
@[simp] theorem loadY_cpuCycles (m : Byte) (s : State) : (loadY m s).cpuCycles = s.cpuCycles := rfl
@[simp] theorem loadY_fault (m : Byte) (s : State) : (loadY m s).fault = s.fault := rfl
@[simp] theorem loadY_ram (m : Byte) (s : State) : (loadY m s).ram = s.ram := rfl
@[simp] theorem loadY_ppu (m : Byte) (s : State) : (loadY m s).ppu = s.ppu := rfl
@[simp] theorem loadY_pads (m : Byte) (s : State) : (loadY m s).pads = s.pads := rfl
@[simp] theorem loadY_cart (m : Byte) (s : State) : (loadY m s).cart = s.cart := rfl
@[simp] theorem loadY_params (m : Byte) (s : State) : (loadY m s).params = s.params := rfl

/-! ### `charge` -/

@[simp] theorem charge_a (n : Nat) (s : State) : (charge n s).a = s.a := rfl
@[simp] theorem charge_x (n : Nat) (s : State) : (charge n s).x = s.x := rfl
@[simp] theorem charge_y (n : Nat) (s : State) : (charge n s).y = s.y := rfl
@[simp] theorem charge_sp (n : Nat) (s : State) : (charge n s).sp = s.sp := rfl
@[simp] theorem charge_pc (n : Nat) (s : State) : (charge n s).pc = s.pc := rfl
@[simp] theorem charge_p (n : Nat) (s : State) : (charge n s).p = s.p := rfl
@[simp] theorem charge_nmiPending (n : Nat) (s : State) : (charge n s).nmiPending = s.nmiPending := rfl
@[simp] theorem charge_stallCycles (n : Nat) (s : State) : (charge n s).stallCycles = s.stallCycles := rfl
@[simp] theorem charge_cpuCycles (n : Nat) (s : State) : (charge n s).cpuCycles = s.cpuCycles + n := rfl
@[simp] theorem charge_fault (n : Nat) (s : State) : (charge n s).fault = s.fault := rfl
@[simp] theorem charge_ram (n : Nat) (s : State) : (charge n s).ram = s.ram := rfl
@[simp] theorem charge_ppu (n : Nat) (s : State) : (charge n s).ppu = s.ppu := rfl
@[simp] theorem charge_pads (n : Nat) (s : State) : (charge n s).pads = s.pads := rfl
@[simp] theorem charge_cart (n : Nat) (s : State) : (charge n s).cart = s.cart := rfl
@[simp] theorem charge_params (n : Nat) (s : State) : (charge n s).params = s.params := rfl

/-! ### `requestNmi` -/

@[simp] theorem requestNmi_a (s : State) : (requestNmi s).a = s.a := rfl
@[simp] theorem requestNmi_x (s : State) : (requestNmi s).x = s.x := rfl
@[simp] theorem requestNmi_y (s : State) : (requestNmi s).y = s.y := rfl
@[simp] theorem requestNmi_sp (s : State) : (requestNmi s).sp = s.sp := rfl
@[simp] theorem requestNmi_pc (s : State) : (requestNmi s).pc = s.pc := rfl
@[simp] theorem requestNmi_p (s : State) : (requestNmi s).p = s.p := rfl
@[simp] theorem requestNmi_nmiPending (s : State) : (requestNmi s).nmiPending = true := rfl
@[simp] theorem requestNmi_stallCycles (s : State) : (requestNmi s).stallCycles = s.stallCycles := rfl
@[simp] theorem requestNmi_cpuCycles (s : State) : (requestNmi s).cpuCycles = s.cpuCycles := rfl
@[simp] theorem requestNmi_fault (s : State) : (requestNmi s).fault = s.fault := rfl
@[simp] theorem requestNmi_ram (s : State) : (requestNmi s).ram = s.ram := rfl
@[simp] theorem requestNmi_ppu (s : State) : (requestNmi s).ppu = s.ppu := rfl
@[simp] theorem requestNmi_pads (s : State) : (requestNmi s).pads = s.pads := rfl
@[simp] theorem requestNmi_cart (s : State) : (requestNmi s).cart = s.cart := rfl
@[simp] theorem requestNmi_params (s : State) : (requestNmi s).params = s.params := rfl

/-! ### `vramIncrement` -/

@[simp] theorem vramIncrement_a (s : State) : (vramIncrement s).a = s.a := rfl
@[simp] theorem vramIncrement_x (s : State) : (vramIncrement s).x = s.x := rfl
@[simp] theorem vramIncrement_y (s : State) : (vramIncrement s).y = s.y := rfl
@[simp] theorem vramIncrement_sp (s : State) : (vramIncrement s).sp = s.sp := rfl
@[simp] theorem vramIncrement_pc (s : State) : (vramIncrement s).pc = s.pc := rfl
@[simp] theorem vramIncrement_p (s : State) : (vramIncrement s).p = s.p := rfl
@[simp] theorem vramIncrement_nmiPending (s : State) : (vramIncrement s).nmiPending = s.nmiPending := rfl
@[simp] theorem vramIncrement_stallCycles (s : State) : (vramIncrement s).stallCycles = s.stallCycles := rfl
@[simp] theorem vramIncrement_cpuCycles (s : State) : (vramIncrement s).cpuCycles = s.cpuCycles := rfl
@[simp] theorem vramIncrement_fault (s : State) : (vramIncrement s).fault = s.fault := rfl
@[simp] theorem vramIncrement_ram (s : State) : (vramIncrement s).ram = s.ram := rfl
@[simp] theorem vramIncrement_pads (s : State) : (vramIncrement s).pads = s.pads := rfl
@[simp] theorem vramIncrement_cart (s : State) : (vramIncrement s).cart = s.cart := rfl
@[simp] theorem vramIncrement_params (s : State) : (vramIncrement s).params = s.params := rfl

/-! ### `writeOamData` -/

@[simp] theorem writeOamData_a (v : Byte) (s : State) : (writeOamData v s).a = s.a := rfl
@[simp] theorem writeOamData_x (v : Byte) (s : State) : (writeOamData v s).x = s.x := rfl
@[simp] theorem writeOamData_y (v : Byte) (s : State) : (writeOamData v s).y = s.y := rfl
@[simp] theorem writeOamData_sp (v : Byte) (s : State) : (writeOamData v s).sp = s.sp := rfl
@[simp] theorem writeOamData_pc (v : Byte) (s : State) : (writeOamData v s).pc = s.pc := rfl
@[simp] theorem writeOamData_p (v : Byte) (s : State) : (writeOamData v s).p = s.p := rfl
@[simp] theorem writeOamData_nmiPending (v : Byte) (s : State) : (writeOamData v s).nmiPending = s.nmiPending := rfl
@[simp] theorem writeOamData_stallCycles (v : Byte) (s : State) :
    (writeOamData v s).stallCycles = s.stallCycles := rfl
@[simp] theorem writeOamData_cpuCycles (v : Byte) (s : State) : (writeOamData v s).cpuCycles = s.cpuCycles := rfl
@[simp] theorem writeOamData_fault (v : Byte) (s : State) : (writeOamData v s).fault = s.fault := rfl
@[simp] theorem writeOamData_ram (v : Byte) (s : State) : (writeOamData v s).ram = s.ram := rfl
@[simp] theorem writeOamData_pads (v : Byte) (s : State) : (writeOamData v s).pads = s.pads := rfl
@[simp] theorem writeOamData_cart (v : Byte) (s : State) : (writeOamData v s).cart = s.cart := rfl
@[simp] theorem writeOamData_params (v : Byte) (s : State) : (writeOamData v s).params = s.params := rfl

/-! ### Flags -/

/-- A flag read after one flag has been replaced. -/
@[simp] theorem getFlag_putFlag (f g : Flag) (b : Bool) (p : Byte) :
    getFlag g (putFlag f b p) = if g = f then b else getFlag g p := by
  cases b <;> cases f <;> cases g <;>
    simp [getFlag, putFlag, Flag.bit, Flag.mask]

/-- A flag of the live register after one flag has been replaced. -/
@[simp] theorem State.flag_setFlag (f g : Flag) (b : Bool) (s : State) :
    (s.setFlag f b).flag g = if g = f then b else s.flag g :=
  getFlag_putFlag f g b s.p

/-- The flags after `SetZN(v)`. -/
@[simp] theorem State.flag_setZN (g : Flag) (v : Byte) (s : State) :
    (s.setZN v).flag g =
      if g = .negative then v.getLsbD 7 else if g = .zero then decide (v = 0x00) else s.flag g := by
  simp [State.setZN]

/-- The flags after a comparison. -/
@[simp] theorem State.flag_compareFlags (g : Flag) (r m : Byte) (s : State) :
    (s.compareFlags r m).flag g =
      if g = .negative then (r - m).getLsbD 7
      else if g = .zero then decide (r = m)
      else if g = .carry then decide (m.toNat ≤ r.toNat) else s.flag g := by
  simp [State.compareFlags]

/-- The flags after `BIT`. -/
@[simp] theorem State.flag_bitFlags (g : Flag) (m : Byte) (s : State) :
    (s.bitFlags m).flag g =
      if g = .overflow then m.getLsbD 6
      else if g = .negative then m.getLsbD 7
      else if g = .zero then decide (s.a &&& m = 0) else s.flag g := by
  simp [State.bitFlags]

/-- The flags after an addition with carry. -/
@[simp] theorem State.flag_addWithCarry (g : Flag) (m : Byte) (s : State) :
    (s.addWithCarry m).flag g =
      if g = .negative then (sumByte s.a m (s.flag .carry)).getLsbD 7
      else if g = .zero then decide (sumByte s.a m (s.flag .carry) = 0x00)
      else if g = .overflow then sumOverflow s.a m (s.flag .carry)
      else if g = .carry then sumCarry s.a m (s.flag .carry) else s.flag g := by
  simp only [State.addWithCarry, State.flag_setZN]
  split
  · rfl
  · split
    · rfl
    · exact (State.flag_setFlag .overflow g _ _).trans (by rw [State.flag_setFlag])

/-- A flag reads only `P`. -/
theorem State.flag_congr {s t : State} (g : Flag) (h : s.p = t.p) : s.flag g = t.flag g := by
  simp [State.flag, h]

@[simp] theorem State.flag_charge (g : Flag) (n : Nat) (s : State) : (charge n s).flag g = s.flag g := rfl

/-- Bit 5 is set and bit 4 is clear in a status that `PLP` or `RTI` loads (10_state.md R15). -/
theorem getFlag_statusOfPulled (g : Flag) (v : Byte) :
    getFlag g (statusOfPulled v) =
      if g = .unused then true else if g = .breakBit then false else getFlag g v := by
  cases g <;>
    simp [getFlag, statusOfPulled, Flag.bit]

end Sys2Proof.Machine
end

