-- ==== Sys2Proof/Laws/Bus.lean ====
section
/-! SUPPORT. What a bus access, a stack access and an interrupt entry can change, each said once; the field-by-field
lemmas that follow from it are tagged `@[simp]`. -/

namespace Sys2Proof.Machine

/-! ### Reads -/

/-- `t` is `s` after reads: at most `vblank` (which a read can only clear), `w`, `data_buffer`, `vram_addr` and the shift
registers of the controllers differ (20_memory.md R64). -/
def ReadsTo (s t : State) : Prop :=
  ∃ (vblank w : Bool) (buffer : Byte) (address : PpuAddr) (u0 u1 : Byte), (vblank = true → s.ppu.vblank = true) ∧
    t =
      { s with
        ppu := { s.ppu with vblank := vblank, w := w, dataBuffer := buffer, vramAddr := address }
        pads := { s.pads with pad0 := ⟨s.pads.pad0.buttons, u0⟩, pad1 := ⟨s.pads.pad1.buttons, u1⟩ } }

theorem ReadsTo.refl (s : State) : ReadsTo s s :=
  ⟨s.ppu.vblank, s.ppu.w, s.ppu.dataBuffer, s.ppu.vramAddr, s.pads.pad0.shift, s.pads.pad1.shift, id, rfl⟩

theorem ReadsTo.trans {s t u : State} (h : ReadsTo s t) (g : ReadsTo t u) : ReadsTo s u := by
  obtain ⟨v, w, b, d, p, q, hv, rfl⟩ := h
  obtain ⟨v', w', b', d', p', q', hv', rfl⟩ := g
  exact ⟨v', w', b', d', p', q', fun x => hv (hv' x), rfl⟩

theorem ReadsTo.a {s t : State} (h : ReadsTo s t) : t.a = s.a := by
  obtain ⟨_, _, _, _, _, _, _, rfl⟩ := h; rfl

theorem ReadsTo.x {s t : State} (h : ReadsTo s t) : t.x = s.x := by
  obtain ⟨_, _, _, _, _, _, _, rfl⟩ := h; rfl

theorem ReadsTo.y {s t : State} (h : ReadsTo s t) : t.y = s.y := by
  obtain ⟨_, _, _, _, _, _, _, rfl⟩ := h; rfl

theorem ReadsTo.sp {s t : State} (h : ReadsTo s t) : t.sp = s.sp := by
  obtain ⟨_, _, _, _, _, _, _, rfl⟩ := h; rfl

theorem ReadsTo.pc {s t : State} (h : ReadsTo s t) : t.pc = s.pc := by
  obtain ⟨_, _, _, _, _, _, _, rfl⟩ := h; rfl

theorem ReadsTo.p {s t : State} (h : ReadsTo s t) : t.p = s.p := by
  obtain ⟨_, _, _, _, _, _, _, rfl⟩ := h; rfl

theorem ReadsTo.nmiPending {s t : State} (h : ReadsTo s t) : t.nmiPending = s.nmiPending := by
  obtain ⟨_, _, _, _, _, _, _, rfl⟩ := h; rfl

theorem ReadsTo.stallCycles {s t : State} (h : ReadsTo s t) : t.stallCycles = s.stallCycles := by
  obtain ⟨_, _, _, _, _, _, _, rfl⟩ := h; rfl

theorem ReadsTo.cpuCycles {s t : State} (h : ReadsTo s t) : t.cpuCycles = s.cpuCycles := by
  obtain ⟨_, _, _, _, _, _, _, rfl⟩ := h; rfl

theorem ReadsTo.fault {s t : State} (h : ReadsTo s t) : t.fault = s.fault := by
  obtain ⟨_, _, _, _, _, _, _, rfl⟩ := h; rfl

theorem ReadsTo.ram {s t : State} (h : ReadsTo s t) : t.ram = s.ram := by
  obtain ⟨_, _, _, _, _, _, _, rfl⟩ := h; rfl

theorem ReadsTo.cart {s t : State} (h : ReadsTo s t) : t.cart = s.cart := by
  obtain ⟨_, _, _, _, _, _, _, rfl⟩ := h; rfl

theorem ReadsTo.params {s t : State} (h : ReadsTo s t) : t.params = s.params := by
  obtain ⟨_, _, _, _, _, _, _, rfl⟩ := h; rfl

theorem ReadsTo.ppu_ctrl {s t : State} (h : ReadsTo s t) : t.ppu.ctrl = s.ppu.ctrl := by
  obtain ⟨_, _, _, _, _, _, _, rfl⟩ := h; rfl

theorem ReadsTo.ppu_mask {s t : State} (h : ReadsTo s t) : t.ppu.mask = s.ppu.mask := by
  obtain ⟨_, _, _, _, _, _, _, rfl⟩ := h; rfl

theorem ReadsTo.ppu_sprite0Hit {s t : State} (h : ReadsTo s t) : t.ppu.sprite0Hit = s.ppu.sprite0Hit := by
  obtain ⟨_, _, _, _, _, _, _, rfl⟩ := h; rfl

theorem ReadsTo.ppu_oamAddr {s t : State} (h : ReadsTo s t) : t.ppu.oamAddr = s.ppu.oamAddr := by
  obtain ⟨_, _, _, _, _, _, _, rfl⟩ := h; rfl

theorem ReadsTo.ppu_scrollX {s t : State} (h : ReadsTo s t) : t.ppu.scrollX = s.ppu.scrollX := by
  obtain ⟨_, _, _, _, _, _, _, rfl⟩ := h; rfl

theorem ReadsTo.ppu_scrollY {s t : State} (h : ReadsTo s t) : t.ppu.scrollY = s.ppu.scrollY := by
  obtain ⟨_, _, _, _, _, _, _, rfl⟩ := h; rfl

theorem ReadsTo.ppu_pixelX {s t : State} (h : ReadsTo s t) : t.ppu.pixelX = s.ppu.pixelX := by
  obtain ⟨_, _, _, _, _, _, _, rfl⟩ := h; rfl

theorem ReadsTo.ppu_pixelY {s t : State} (h : ReadsTo s t) : t.ppu.pixelY = s.ppu.pixelY := by
  obtain ⟨_, _, _, _, _, _, _, rfl⟩ := h; rfl

theorem ReadsTo.ppu_nmiFired {s t : State} (h : ReadsTo s t) : t.ppu.nmiFired = s.ppu.nmiFired := by
  obtain ⟨_, _, _, _, _, _, _, rfl⟩ := h; rfl

theorem ReadsTo.ppu_frameComplete {s t : State} (h : ReadsTo s t) : t.ppu.frameComplete = s.ppu.frameComplete := by
  obtain ⟨_, _, _, _, _, _, _, rfl⟩ := h; rfl

theorem ReadsTo.ppu_frameCount {s t : State} (h : ReadsTo s t) : t.ppu.frameCount = s.ppu.frameCount := by
  obtain ⟨_, _, _, _, _, _, _, rfl⟩ := h; rfl

theorem ReadsTo.ppu_framebuffer {s t : State} (h : ReadsTo s t) : t.ppu.framebuffer = s.ppu.framebuffer := by
  obtain ⟨_, _, _, _, _, _, _, rfl⟩ := h; rfl

theorem ReadsTo.ppu_vram {s t : State} (h : ReadsTo s t) : t.ppu.vram = s.ppu.vram := by
  obtain ⟨_, _, _, _, _, _, _, rfl⟩ := h; rfl

theorem ReadsTo.ppu_oam {s t : State} (h : ReadsTo s t) : t.ppu.oam = s.ppu.oam := by
  obtain ⟨_, _, _, _, _, _, _, rfl⟩ := h; rfl

theorem ReadsTo.flag {s t : State} (h : ReadsTo s t) (f : Flag) : t.flag f = s.flag f := by
  simp only [State.flag, h.p]

/-- A read of a PPU register. -/
theorem ppuRegRead_frame (r : PpuReg) (s : State) : ReadsTo s (ppuRegRead r s).2 := by
  cases r
  case status => exact ⟨false, false, s.ppu.dataBuffer, s.ppu.vramAddr, s.pads.pad0.shift, s.pads.pad1.shift, by simp, rfl⟩
  case data => exact ⟨s.ppu.vblank, s.ppu.w, _, _, s.pads.pad0.shift, s.pads.pad1.shift, id, rfl⟩
  all_goals exact ReadsTo.refl s

/-- A read of a controller port. -/
theorem controllerRead_frame (k : Port) (s : State) : ReadsTo s (controllerRead k s).2 := by
  unfold controllerRead Pad.shiftOut
  cases k <;> cases s.pads.strobe <;>
    exact ⟨s.ppu.vblank, s.ppu.w, s.ppu.dataBuffer, s.ppu.vramAddr, _, _, id, rfl⟩

/-- `BusRead` changes at most what `ReadsTo` says. -/
theorem busRead_frame (a : Addr) (s : State) : ReadsTo s (busRead a s).2 := by
  unfold busRead
  split
  · exact ReadsTo.refl s
  · split_ifs
    · exact ReadsTo.refl s
    · exact ppuRegRead_frame (ppuRegOf a) s
    · exact ReadsTo.refl s
    · exact ReadsTo.refl s
    · exact controllerRead_frame .port0 s
    · exact controllerRead_frame .port1 s
    · exact ReadsTo.refl s
    · exact ReadsTo.refl s

@[simp] theorem busRead_a (d : Addr) (s : State) : (busRead d s).2.a = s.a :=
  (busRead_frame d s).a

@[simp] theorem busRead_x (d : Addr) (s : State) : (busRead d s).2.x = s.x :=
  (busRead_frame d s).x

@[simp] theorem busRead_y (d : Addr) (s : State) : (busRead d s).2.y = s.y :=
  (busRead_frame d s).y

@[simp] theorem busRead_sp (d : Addr) (s : State) : (busRead d s).2.sp = s.sp :=
  (busRead_frame d s).sp

@[simp] theorem busRead_pc (d : Addr) (s : State) : (busRead d s).2.pc = s.pc :=
  (busRead_frame d s).pc

@[simp] theorem busRead_p (d : Addr) (s : State) : (busRead d s).2.p = s.p :=
  (busRead_frame d s).p

@[simp] theorem busRead_nmiPending (d : Addr) (s : State) : (busRead d s).2.nmiPending = s.nmiPending :=
  (busRead_frame d s).nmiPending

@[simp] theorem busRead_stallCycles (d : Addr) (s : State) : (busRead d s).2.stallCycles = s.stallCycles :=
  (busRead_frame d s).stallCycles

@[simp] theorem busRead_cpuCycles (d : Addr) (s : State) : (busRead d s).2.cpuCycles = s.cpuCycles :=
  (busRead_frame d s).cpuCycles

@[simp] theorem busRead_fault (d : Addr) (s : State) : (busRead d s).2.fault = s.fault :=
  (busRead_frame d s).fault

@[simp] theorem busRead_ram (d : Addr) (s : State) : (busRead d s).2.ram = s.ram :=
  (busRead_frame d s).ram

@[simp] theorem busRead_cart (d : Addr) (s : State) : (busRead d s).2.cart = s.cart :=
  (busRead_frame d s).cart

@[simp] theorem busRead_params (d : Addr) (s : State) : (busRead d s).2.params = s.params :=
  (busRead_frame d s).params

@[simp] theorem busRead_ppu_ctrl (d : Addr) (s : State) : (busRead d s).2.ppu.ctrl = s.ppu.ctrl :=
  (busRead_frame d s).ppu_ctrl

@[simp] theorem busRead_ppu_mask (d : Addr) (s : State) : (busRead d s).2.ppu.mask = s.ppu.mask :=
  (busRead_frame d s).ppu_mask

@[simp] theorem busRead_ppu_sprite0Hit (d : Addr) (s : State) : (busRead d s).2.ppu.sprite0Hit = s.ppu.sprite0Hit :=
  (busRead_frame d s).ppu_sprite0Hit

@[simp] theorem busRead_ppu_oamAddr (d : Addr) (s : State) : (busRead d s).2.ppu.oamAddr = s.ppu.oamAddr :=
  (busRead_frame d s).ppu_oamAddr

@[simp] theorem busRead_ppu_scrollX (d : Addr) (s : State) : (busRead d s).2.ppu.scrollX = s.ppu.scrollX :=
  (busRead_frame d s).ppu_scrollX

@[simp] theorem busRead_ppu_scrollY (d : Addr) (s : State) : (busRead d s).2.ppu.scrollY = s.ppu.scrollY :=
  (busRead_frame d s).ppu_scrollY

@[simp] theorem busRead_ppu_pixelX (d : Addr) (s : State) : (busRead d s).2.ppu.pixelX = s.ppu.pixelX :=
  (busRead_frame d s).ppu_pixelX

@[simp] theorem busRead_ppu_pixelY (d : Addr) (s : State) : (busRead d s).2.ppu.pixelY = s.ppu.pixelY :=
  (busRead_frame d s).ppu_pixelY

@[simp] theorem busRead_ppu_nmiFired (d : Addr) (s : State) : (busRead d s).2.ppu.nmiFired = s.ppu.nmiFired :=
  (busRead_frame d s).ppu_nmiFired

@[simp] theorem busRead_ppu_frameComplete (d : Addr) (s : State) : (busRead d s).2.ppu.frameComplete = s.ppu.frameComplete :=
  (busRead_frame d s).ppu_frameComplete

@[simp] theorem busRead_ppu_frameCount (d : Addr) (s : State) : (busRead d s).2.ppu.frameCount = s.ppu.frameCount :=
  (busRead_frame d s).ppu_frameCount

@[simp] theorem busRead_ppu_framebuffer (d : Addr) (s : State) : (busRead d s).2.ppu.framebuffer = s.ppu.framebuffer :=
  (busRead_frame d s).ppu_framebuffer

@[simp] theorem busRead_ppu_vram (d : Addr) (s : State) : (busRead d s).2.ppu.vram = s.ppu.vram :=
  (busRead_frame d s).ppu_vram

@[simp] theorem busRead_ppu_oam (d : Addr) (s : State) : (busRead d s).2.ppu.oam = s.ppu.oam :=
  (busRead_frame d s).ppu_oam

/-- A read of RAM is the stored byte and changes nothing (20_memory.md R56). -/
theorem busRead_at_ram {a : Addr} (s : State) (h : a.toNat ≤ 0x1FFF) :
    busRead a s = (Memory.read s.ram (a.toNat % 0x800), s) := by
  simp [busRead, Cartridge.cpuRead_low s.cart (show a.toNat < 0x6000 by omega), h]

/-- A read at 0x8000 and above is the PRG-ROM byte and changes nothing (48 R295(b)). -/
theorem busRead_at_prg {a : Addr} (s : State) (h : 0x8000 ≤ a.toNat) :
    busRead a s = (Memory.read s.cart.prg (s.cart.prgIndex a), s) := by
  simp [busRead, Cartridge.cpuRead_high s.cart h]

/-- A bus read neither looks at the CPU's registers nor at its counters. -/
theorem busRead_cpu (d : Addr) (s : State) (a x y sp p : Byte) (pc : Addr) (nmi : Bool) (stall cycles : Nat)
    (fault : Option Fault) :
    busRead d
        { s with
          a := a, x := x, y := y, sp := sp, p := p, pc := pc, nmiPending := nmi, stallCycles := stall
          cpuCycles := cycles, fault := fault } =
      ((busRead d s).1,
       { (busRead d s).2 with
         a := a, x := x, y := y, sp := sp, p := p, pc := pc, nmiPending := nmi, stallCycles := stall
         cpuCycles := cycles, fault := fault }) := by
  unfold busRead
  dsimp only
  rcases s.cart.cpuRead d with _ | v
  · dsimp only
    split_ifs
    all_goals first | rfl | (cases ppuRegOf d <;> rfl)
  · rfl

/-- `PpuRead` reads only `vram` and the cartridge. -/
theorem ppuRead_congr {s t : State} (a : PpuAddr) (hc : s.cart = t.cart) (hv : s.ppu.vram = t.ppu.vram) :
    ppuRead s a = ppuRead t a := by
  simp [ppuRead, hc, hv]

/-! ### Writes -/

/-- An OAM DMA copy changes at most the fields a read changes, `oam` and `oam_addr`. -/
theorem oamCopy_frame (page : Byte) (count : Nat) (s : State) :
    ∃ (vblank w : Bool) (buffer : Byte) (address : PpuAddr) (oam : Memory 8) (pads : Controllers),
      (vblank = true → s.ppu.vblank = true) ∧ (Memory.wf 256 s.ppu.oam = true → Memory.wf 256 oam = true) ∧
      oamCopy page count s =
        { s with
          ppu :=
            { s.ppu with
              vblank := vblank, w := w, dataBuffer := buffer, vramAddr := address, oam := oam
              oamAddr := s.ppu.oamAddr + BitVec.ofNat 8 count }
          pads := pads } := by
  induction count generalizing s with
  | zero => exact ⟨s.ppu.vblank, s.ppu.w, s.ppu.dataBuffer, s.ppu.vramAddr, s.ppu.oam, s.pads, id, id, by simp [oamCopy]⟩
  | succ count ih =>
    obtain ⟨v1, w1, b1, d1, p1, q1, hv1, h1⟩ := busRead_frame (word16 page (BitVec.ofNat 8 (255 - count))) s
    simp only [oamCopy]
    rw [h1]
    obtain ⟨v2, w2, b2, d2, o2, p2, hv2, hw2, h2⟩ := ih (writeOamData
      (busRead (word16 page (BitVec.ofNat 8 (255 - count))) s).1
      { s with ppu := { s.ppu with vblank := v1, w := w1, dataBuffer := b1, vramAddr := d1 },
               pads := { s.pads with pad0 := ⟨s.pads.pad0.buttons, p1⟩, pad1 := ⟨s.pads.pad1.buttons, q1⟩ } })
    refine ⟨v2, w2, b2, d2, o2, p2, fun h => hv1 (hv2 h), fun h => hw2 ?_, ?_⟩
    · exact Memory.wf_write (by omega) h
    · rw [h2]
      have : s.ppu.oamAddr + 1 + BitVec.ofNat 8 count = s.ppu.oamAddr + BitVec.ofNat 8 (count + 1) := by
        rw [BitVec.add_assoc, Nat.add_comm count 1, BitVec.ofNat_add]
        rfl
      simp only [writeOamData, this]

/-- `requestNmiOnce` leaves `nmi_fired` set, and sets `nmi_pending` if it was clear. -/
theorem requestNmiOnce_eq (s : State) :
    requestNmiOnce s =
      { s with ppu := { s.ppu with nmiFired := true }, nmiPending := s.nmiPending || !s.ppu.nmiFired } := by
  unfold requestNmiOnce
  by_cases h : s.ppu.nmiFired = true
  · obtain ⟨_, _, _, _, _, _, _, _, _, _, _, ⟨_, _, _, _, _, _, _, _, _, _, _, _, _, _, _, _, _, _⟩, _, _, _⟩ := s
    simp only at h
    subst h
    simp
  · simp [h, requestNmi]

/-- `BusWrite` changes no CPU register, no cycle count, no fault and no parameter. -/
theorem busWrite_frame (a : Addr) (v : Byte) (s : State) :
    ∃ (nmi : Bool) (stall : Nat) (ram : Memory 8) (ppu : Ppu) (pads : Controllers) (cart : Cartridge),
      busWrite a v s =
        { s with nmiPending := nmi, stallCycles := stall, ram := ram, ppu := ppu, pads := pads, cart := cart } := by
  have same : ∃ (nmi : Bool) (stall : Nat) (ram : Memory 8) (ppu : Ppu) (pads : Controllers) (cart : Cartridge),
      s = { s with nmiPending := nmi, stallCycles := stall, ram := ram, ppu := ppu, pads := pads, cart := cart } :=
    ⟨s.nmiPending, s.stallCycles, s.ram, s.ppu, s.pads, s.cart, rfl⟩
  unfold busWrite
  split
  · exact ⟨s.nmiPending, s.stallCycles, s.ram, s.ppu, s.pads, _, rfl⟩
  · split_ifs
    · exact ⟨s.nmiPending, s.stallCycles, _, s.ppu, s.pads, s.cart, rfl⟩
    · cases ppuRegOf a <;> simp only [ppuRegWrite]
      · unfold writeCtrl
        dsimp only
        split_ifs
        · rw [requestNmiOnce_eq]
          exact ⟨_, s.stallCycles, s.ram, _, s.pads, s.cart, rfl⟩
        · exact ⟨s.nmiPending, s.stallCycles, s.ram, _, s.pads, s.cart, rfl⟩
      · exact ⟨s.nmiPending, s.stallCycles, s.ram, _, s.pads, s.cart, rfl⟩
      · exact same
      · exact ⟨s.nmiPending, s.stallCycles, s.ram, _, s.pads, s.cart, rfl⟩
      · exact ⟨s.nmiPending, s.stallCycles, s.ram, _, s.pads, s.cart, rfl⟩
      · unfold writeScroll
        split_ifs <;> exact ⟨s.nmiPending, s.stallCycles, s.ram, _, s.pads, s.cart, rfl⟩
      · unfold writeAddr
        split_ifs <;> exact ⟨s.nmiPending, s.stallCycles, s.ram, _, s.pads, s.cart, rfl⟩
      · unfold writeData vramIncrement ppuWrite
        split <;> exact ⟨s.nmiPending, s.stallCycles, s.ram, _, s.pads, _, rfl⟩
    · exact same
    · obtain ⟨_, _, _, _, _, _, _, _, h⟩ := oamCopy_frame v 256 s
      unfold oamDma
      rw [h]
      exact ⟨s.nmiPending, _, s.ram, _, _, s.cart, rfl⟩
    · unfold controllerWrite
      split_ifs <;> exact ⟨s.nmiPending, s.stallCycles, s.ram, s.ppu, _, s.cart, rfl⟩
    · exact same
    · exact same
    · exact same

/-- An OAM DMA copy does not look at `P`. -/
theorem oamCopy_p (page q : Byte) (count : Nat) (s : State) :
    oamCopy page count { s with p := q } = { oamCopy page count s with p := q } := by
  induction count generalizing s with
  | zero => rfl
  | succ count ih =>
    have h := busRead_cpu (word16 page (BitVec.ofNat 8 (255 - count))) s s.a s.x s.y s.sp q s.pc s.nmiPending
      s.stallCycles s.cpuCycles s.fault
    simp only [oamCopy]
    rw [h, ← ih]
    obtain ⟨_, _, _, _, _, _, _, g⟩ := busRead_frame (word16 page (BitVec.ofNat 8 (255 - count))) s
    rw [g]
    rfl

/-- A bus write does not look at `P`. -/
theorem busWrite_p_commutes (d : Addr) (v q : Byte) (s : State) :
    busWrite d v { s with p := q } = { busWrite d v s with p := q } := by
  unfold busWrite
  dsimp only
  rcases s.cart.cpuWrite d v with _ | c
  · dsimp only
    split_ifs
    · rfl
    · cases ppuRegOf d <;> simp only [ppuRegWrite]
      · simp only [writeCtrl, requestNmiOnce_eq]
        split_ifs <;> rfl
      · rfl
      · simp only [writeScroll]
        split_ifs <;> rfl
      · simp only [writeAddr]
        split_ifs <;> rfl
      · cases h : s.cart.ppuWrite s.ppu.vramAddr v <;> simp only [writeData, vramIncrement, ppuWrite, h]
    · rfl
    · simp only [oamDma, oamCopy_p]
    · simp only [controllerWrite]
      split_ifs <;> rfl
    · rfl
    · rfl
    · rfl
  · rfl

@[simp] theorem busWrite_a (d : Addr) (v : Byte) (s : State) : (busWrite d v s).a = s.a := by
  obtain ⟨_, _, _, _, _, _, h⟩ := busWrite_frame d v s
  rw [h]

@[simp] theorem busWrite_x (d : Addr) (v : Byte) (s : State) : (busWrite d v s).x = s.x := by
  obtain ⟨_, _, _, _, _, _, h⟩ := busWrite_frame d v s
  rw [h]

@[simp] theorem busWrite_y (d : Addr) (v : Byte) (s : State) : (busWrite d v s).y = s.y := by
  obtain ⟨_, _, _, _, _, _, h⟩ := busWrite_frame d v s
  rw [h]

@[simp] theorem busWrite_sp (d : Addr) (v : Byte) (s : State) : (busWrite d v s).sp = s.sp := by
  obtain ⟨_, _, _, _, _, _, h⟩ := busWrite_frame d v s
  rw [h]

@[simp] theorem busWrite_pc (d : Addr) (v : Byte) (s : State) : (busWrite d v s).pc = s.pc := by
  obtain ⟨_, _, _, _, _, _, h⟩ := busWrite_frame d v s
  rw [h]

@[simp] theorem busWrite_p (d : Addr) (v : Byte) (s : State) : (busWrite d v s).p = s.p := by
  obtain ⟨_, _, _, _, _, _, h⟩ := busWrite_frame d v s
  rw [h]

@[simp] theorem busWrite_cpuCycles (d : Addr) (v : Byte) (s : State) : (busWrite d v s).cpuCycles = s.cpuCycles := by
  obtain ⟨_, _, _, _, _, _, h⟩ := busWrite_frame d v s
  rw [h]

@[simp] theorem busWrite_fault (d : Addr) (v : Byte) (s : State) : (busWrite d v s).fault = s.fault := by
  obtain ⟨_, _, _, _, _, _, h⟩ := busWrite_frame d v s
  rw [h]

@[simp] theorem busWrite_params (d : Addr) (v : Byte) (s : State) : (busWrite d v s).params = s.params := by
  obtain ⟨_, _, _, _, _, _, h⟩ := busWrite_frame d v s
  rw [h]

/-- A write to RAM changes that cell and nothing else (20_memory.md R56). -/
theorem busWrite_at_ram {a : Addr} (v : Byte) (s : State) (h : a.toNat ≤ 0x1FFF) :
    busWrite a v s = { s with ram := Memory.write s.ram (a.toNat % 0x800) v } := by
  simp [busWrite, Cartridge.cpuWrite_low s.cart v (show a.toNat < 0x6000 by omega), h]

/-! ### The stack -/

/-- A stack address is in page 1 (10_state.md R12). -/
theorem stackPage_toNat (sp : Byte) : (stackPage sp).toNat = 0x100 + sp.toNat := by
  unfold stackPage
  have := sp.isLt
  have base : (0x0100 : Addr).toNat = 0x100 := rfl
  simp only [BitVec.toNat_add, BitVec.toNat_setWidth, base]
  omega

/-- The RAM cell of a stack address. -/
theorem stackPage_cell (sp : Byte) : (stackPage sp).toNat % 0x800 = 0x100 + sp.toNat := by
  rw [stackPage_toNat]
  have := sp.isLt
  omega

/-- `Push` writes one byte of the stack page and decrements `SP`; it changes nothing else. -/
theorem push_eq (v : Byte) (s : State) :
    push v s = { s with ram := Memory.write s.ram (0x100 + s.sp.toNat) v, sp := s.sp - 1 } := by
  have h : (stackPage s.sp).toNat ≤ 0x1FFF := by
    rw [stackPage_toNat]
    have := s.sp.isLt
    omega
  simp only [push, busWrite_at_ram v s h, stackPage_cell]

/-- `Pull` increments `SP` and reads one byte of the stack page; it changes nothing else. -/
theorem pull_eq (s : State) :
    pull s = (Memory.read s.ram (0x100 + (s.sp + 1).toNat), { s with sp := s.sp + 1 }) := by
  have h : (stackPage (s.sp + 1)).toNat ≤ 0x1FFF := by
    rw [stackPage_toNat]
    have := (s.sp + 1).isLt
    omega
  simp only [pull, busRead_at_ram _ h, stackPage_cell]

/-- `push16` writes two bytes of the stack page, the high byte first. -/
theorem push16_eq (v : Addr) (s : State) :
    push16 v s =
      { s with
        ram :=
          Memory.write (Memory.write s.ram (0x100 + s.sp.toNat) (hiByte v)) (0x100 + (s.sp - 1).toNat) (loByte v)
        sp := s.sp - 2 } := by
  have : s.sp - 1 - 1 = s.sp - 2 := by rw [BitVec.sub_sub]; rfl
  simp only [push16, push_eq, this]

/-- `pull16` reads two bytes of the stack page, the low byte first. -/
theorem pull16_eq (s : State) :
    pull16 s =
      (word16 (Memory.read s.ram (0x100 + (s.sp + 2).toNat)) (Memory.read s.ram (0x100 + (s.sp + 1).toNat)),
       { s with sp := s.sp + 2 }) := by
  have : s.sp + 1 + 1 = s.sp + 2 := by rw [BitVec.add_assoc]; rfl
  simp only [pull16, pull_eq, this]

/-- `Read16` at a vector reads two PRG-ROM bytes and changes nothing. -/
theorem read16_prg {a : Addr} (s : State) (h : 0x8000 ≤ a.toNat) (h1 : 0x8000 ≤ (a + 1).toNat) :
    read16 a s =
      (word16 (Memory.read s.cart.prg (s.cart.prgIndex (a + 1))) (Memory.read s.cart.prg (s.cart.prgIndex a)), s) := by
  simp only [read16, readPair, busRead_at_prg _ h, busRead_at_prg _ h1]

end Sys2Proof.Machine
end

