-- ==== Sys2Proof/Laws/Console.lean ====
section
/-! SUPPORT. The buttons of a controller as bits, what the host's presses change, and where the ports lie on the bus. -/

namespace Sys2Proof.Machine

theorem Button.bit_lt (button : Button) : button.bit < 8 := by cases button <;> decide

/-- Different buttons have different bits. -/
theorem Button.bit_inj {u v : Button} : u.bit = v.bit ↔ u = v := by cases u <;> cases v <;> decide

theorem Button.mask_getLsbD (button : Button) {n : Nat} (h : n < 8) :
    button.mask.getLsbD n = decide (n = button.bit) := by
  cases button <;> interval_cases n <;> decide

/-- A press sets the bits of its mask, a release clears them, and no other bit changes. -/
theorem Pad.press_getLsbD (q : Pad) (mask : Byte) (pressed : Bool) {n : Nat} (h : n < 8) :
    (q.press mask pressed).buttons.getLsbD n = if mask.getLsbD n = true then pressed else q.buttons.getLsbD n := by
  unfold Pad.press
  cases pressed <;> cases hm : mask.getLsbD n <;>
    simp only [Bool.false_eq_true, if_false, if_true, BitVec.getLsbD_or, BitVec.getLsbD_and, BitVec.getLsbD_not, hm, h,
      decide_true, Bool.not_true, Bool.not_false, Bool.and_true, Bool.and_false, Bool.or_true, Bool.or_false]

/-- The host's press changes the port it names and no other. -/
theorem setButtonPressed_pad (k j : Port) (mask : Byte) (pressed : Bool) (s : State) :
    (setButtonPressed k mask pressed s).pads.pad j =
      if j = k then (s.pads.pad j).press mask pressed else s.pads.pad j := by
  cases k <;> cases j <;> rfl

/-- A bus read of a port's address is a controller read. -/
theorem busRead_port (k : Port) (s : State) : busRead k.address s = controllerRead k s := by
  have unclaimed : s.cart.cpuRead k.address = none := Cartridge.cpuRead_low _ (by cases k <;> decide)
  unfold busRead
  simp only [unclaimed]
  cases k <;> rfl

end Sys2Proof.Machine
end

