-- ==== Sys2Proof/Laws/Exec.lean ====
section
/-! SUPPORT. What `exec` is for the instructions of the three common shapes, over the operand, the base cycles and the
page-cross flag of the table row: the one place where their arms are told apart. -/

namespace Sys2Proof.Machine

/-- The effect of a mnemonic that only reads its operand. -/
def readEffect : Mnemonic → Option (Byte → State → State)
  | .lda => some loadA
  | .ldx => some loadX
  | .ldy => some loadY
  | .adc => some addA
  | .sbc => some subA
  | .and => some andA
  | .ora => some orA
  | .eor => some eorA
  | .cmp => some compareA
  | .cpx => some compareX
  | .cpy => some compareY
  | .bit => some State.bitFlags
  | _ => none

/-- The register that a mnemonic stores. -/
def storeSource : Mnemonic → Option (State → Byte)
  | .sta => some State.a
  | .stx => some State.x
  | .sty => some State.y
  | _ => none

/-- The result of a read-modify-write mnemonic, and what Carry becomes. -/
def modifyEffect : Mnemonic → Option ((State → Byte → Byte) × (Byte → Option Bool))
  | .inc => some (fun _ v => v + 1, keepCarry)
  | .dec => some (fun _ v => v - 1, keepCarry)
  | .asl => some (fun _ v => (shiftLeft v).1, carryLeft)
  | .lsr => some (fun _ v => (shiftRight v).1, carryRight)
  | .rol => some (fun s v => (rotateLeft (s.flag .carry) v).1, carryLeft)
  | .ror => some (fun s v => (rotateRight (s.flag .carry) v).1, carryRight)
  | _ => none

variable {i : Instr}

theorem exec_read {effect : Byte → State → State} (h : readEffect i.mnemonic = some effect) (s : State) :
    exec i s = .next (readInstr effect i.operand i.baseCycles i.pgx s) := by
  cases i <;> cases h <;> rfl

theorem exec_store {source : State → Byte} (h : storeSource i.mnemonic = some source) (s : State) :
    exec i s = .next (storeInstr source i.operand i.baseCycles s) := by
  cases i <;> cases h <;> rfl

theorem exec_modify {compute : State → Byte → Byte} {carry : Byte → Option Bool}
    (h : modifyEffect i.mnemonic = some (compute, carry)) (s : State) :
    exec i s = .next (modifyInstr compute carry i.operand i.baseCycles s) := by
  cases i <;> cases h <;> rfl

/-- `exec` always answers a next state: no instruction of this machine stops by itself. -/
theorem exec_next (i : Instr) (s : State) : ∃ t, exec i s = .next t := by
  cases i <;> exact ⟨_, rfl⟩

end Sys2Proof.Machine
end

