-- ==== Sys2Proof/Laws/Operands.lean ====
section
/-! SUPPORT. What a mode and an operand fetch can change (40_addressing_modes.md R112 to R126): no more than bus reads can, and
nothing at all in every mode but IND. -/

namespace Sys2Proof.Machine

theorem readPair_reads (lo hi : Addr) (s : State) : ReadsTo s (readPair lo hi s).2 :=
  (busRead_frame lo s).trans (busRead_frame hi _)

theorem zeroPage_toNat (b : Byte) : (zeroPage b).toNat = b.toNat := by
  have := b.isLt
  simp only [zeroPage, BitVec.toNat_setWidth]
  omega

/-- Reading a pointer in the zero page. -/
theorem readPair_zeroPage (p q : Byte) (s : State) :
    readPair (zeroPage p) (zeroPage q) s = (word16 (Memory.read s.ram q.toNat) (Memory.read s.ram p.toNat), s) := by
  have hp : (zeroPage p).toNat ≤ 0x1FFF := by rw [zeroPage_toNat]; have := p.isLt; omega
  have hq : (zeroPage q).toNat ≤ 0x1FFF := by rw [zeroPage_toNat]; have := q.isLt; omega
  have ep : (zeroPage p).toNat % 0x800 = p.toNat := by rw [zeroPage_toNat]; have := p.isLt; omega
  have eq : (zeroPage q).toNat % 0x800 = q.toNat := by rw [zeroPage_toNat]; have := q.isLt; omega
  simp only [readPair, busRead_at_ram _ hp, busRead_at_ram _ hq, ep, eq]

/-- A mode changes at most what reads can change. -/
theorem locate_reads (o : Operand) (s : State) : ReadsTo s (locate o s).2 := by
  cases o
  case ind => exact readPair_reads _ _ s
  case izx => exact readPair_reads _ _ s
  case izy => exact readPair_reads _ _ s
  all_goals exact ReadsTo.refl s

/-- Every mode but IND leaves the state as it is: its pointer, if it has one, is in the zero page. -/
theorem locate_state {o : Operand} (h : ∀ b1 b2, o ≠ .ind b1 b2) (s : State) : (locate o s).2 = s := by
  cases o
  case ind => exact absurd rfl (h _ _)
  case izx => simp only [locate, readPair_zeroPage]
  case izy => simp only [locate, readPair_zeroPage]
  all_goals rfl

/-- An operand fetch changes at most what reads can change. -/
theorem operandByte_reads (o : Operand) (ea : Addr) (s : State) : ReadsTo s (operandByte o ea s).2 := by
  cases o
  case acc => exact ReadsTo.refl s
  case imm => exact ReadsTo.refl s
  all_goals exact busRead_frame ea s

/-- The reads of an instruction's operand, the mode's and its own. -/
theorem operand_reads (o : Operand) (s : State) :
    ReadsTo s (operandByte o (locate o s).1.ea (locate o s).2).2 :=
  (locate_reads o s).trans (operandByte_reads _ _ _)

end Sys2Proof.Machine
end

