-- ==== Sys2Proof/Laws/PerInstr.lean ====
section
/-! SUPPORT. The statements about every instruction as syntax, one lemma per constructor. -/

namespace Sys2Proof.Laws.EncodedLength

/-- An instruction has as many bytes as its format says (30_encoding.md R90, R92). -/
def Statement (i : Instr) : Prop := (encode i).length = i.length

theorem ldaImm (b1 : Byte) : Statement (.ldaImm b1) := rfl
theorem ldaZp0 (b1 : Byte) : Statement (.ldaZp0 b1) := rfl
theorem ldaZpx (b1 : Byte) : Statement (.ldaZpx b1) := rfl
theorem ldaAbs (b1 b2 : Byte) : Statement (.ldaAbs b1 b2) := rfl
theorem ldaAbx (b1 b2 : Byte) : Statement (.ldaAbx b1 b2) := rfl
theorem ldaAby (b1 b2 : Byte) : Statement (.ldaAby b1 b2) := rfl
theorem ldaIzx (b1 : Byte) : Statement (.ldaIzx b1) := rfl
theorem ldaIzy (b1 : Byte) : Statement (.ldaIzy b1) := rfl
theorem ldxImm (b1 : Byte) : Statement (.ldxImm b1) := rfl
theorem ldxZp0 (b1 : Byte) : Statement (.ldxZp0 b1) := rfl
theorem ldxZpy (b1 : Byte) : Statement (.ldxZpy b1) := rfl
theorem ldxAbs (b1 b2 : Byte) : Statement (.ldxAbs b1 b2) := rfl
theorem ldxAby (b1 b2 : Byte) : Statement (.ldxAby b1 b2) := rfl
theorem ldyImm (b1 : Byte) : Statement (.ldyImm b1) := rfl
theorem ldyZp0 (b1 : Byte) : Statement (.ldyZp0 b1) := rfl
theorem ldyZpx (b1 : Byte) : Statement (.ldyZpx b1) := rfl
theorem ldyAbs (b1 b2 : Byte) : Statement (.ldyAbs b1 b2) := rfl
theorem ldyAbx (b1 b2 : Byte) : Statement (.ldyAbx b1 b2) := rfl
theorem staZp0 (b1 : Byte) : Statement (.staZp0 b1) := rfl
theorem staZpx (b1 : Byte) : Statement (.staZpx b1) := rfl
theorem staAbs (b1 b2 : Byte) : Statement (.staAbs b1 b2) := rfl
theorem staAbx (b1 b2 : Byte) : Statement (.staAbx b1 b2) := rfl
theorem staAby (b1 b2 : Byte) : Statement (.staAby b1 b2) := rfl
theorem staIzx (b1 : Byte) : Statement (.staIzx b1) := rfl
theorem staIzy (b1 : Byte) : Statement (.staIzy b1) := rfl
theorem stxZp0 (b1 : Byte) : Statement (.stxZp0 b1) := rfl
theorem stxZpy (b1 : Byte) : Statement (.stxZpy b1) := rfl
theorem stxAbs (b1 b2 : Byte) : Statement (.stxAbs b1 b2) := rfl
theorem styZp0 (b1 : Byte) : Statement (.styZp0 b1) := rfl
theorem styZpx (b1 : Byte) : Statement (.styZpx b1) := rfl
theorem styAbs (b1 b2 : Byte) : Statement (.styAbs b1 b2) := rfl
theorem tax : Statement .tax := rfl
theorem tay : Statement .tay := rfl
theorem txa : Statement .txa := rfl
theorem tya : Statement .tya := rfl
theorem tsx : Statement .tsx := rfl
theorem txs : Statement .txs := rfl
theorem adcImm (b1 : Byte) : Statement (.adcImm b1) := rfl
theorem adcZp0 (b1 : Byte) : Statement (.adcZp0 b1) := rfl
theorem adcZpx (b1 : Byte) : Statement (.adcZpx b1) := rfl
theorem adcAbs (b1 b2 : Byte) : Statement (.adcAbs b1 b2) := rfl
theorem adcAbx (b1 b2 : Byte) : Statement (.adcAbx b1 b2) := rfl
theorem adcAby (b1 b2 : Byte) : Statement (.adcAby b1 b2) := rfl
theorem adcIzx (b1 : Byte) : Statement (.adcIzx b1) := rfl
theorem adcIzy (b1 : Byte) : Statement (.adcIzy b1) := rfl
theorem sbcImm (b1 : Byte) : Statement (.sbcImm b1) := rfl
theorem sbcZp0 (b1 : Byte) : Statement (.sbcZp0 b1) := rfl
theorem sbcZpx (b1 : Byte) : Statement (.sbcZpx b1) := rfl
theorem sbcAbs (b1 b2 : Byte) : Statement (.sbcAbs b1 b2) := rfl
theorem sbcAbx (b1 b2 : Byte) : Statement (.sbcAbx b1 b2) := rfl
theorem sbcAby (b1 b2 : Byte) : Statement (.sbcAby b1 b2) := rfl
theorem sbcIzx (b1 : Byte) : Statement (.sbcIzx b1) := rfl
theorem sbcIzy (b1 : Byte) : Statement (.sbcIzy b1) := rfl
theorem andImm (b1 : Byte) : Statement (.andImm b1) := rfl
theorem andZp0 (b1 : Byte) : Statement (.andZp0 b1) := rfl
theorem andZpx (b1 : Byte) : Statement (.andZpx b1) := rfl
theorem andAbs (b1 b2 : Byte) : Statement (.andAbs b1 b2) := rfl
theorem andAbx (b1 b2 : Byte) : Statement (.andAbx b1 b2) := rfl
theorem andAby (b1 b2 : Byte) : Statement (.andAby b1 b2) := rfl
theorem andIzx (b1 : Byte) : Statement (.andIzx b1) := rfl
theorem andIzy (b1 : Byte) : Statement (.andIzy b1) := rfl
theorem oraImm (b1 : Byte) : Statement (.oraImm b1) := rfl
theorem oraZp0 (b1 : Byte) : Statement (.oraZp0 b1) := rfl
theorem oraZpx (b1 : Byte) : Statement (.oraZpx b1) := rfl
theorem oraAbs (b1 b2 : Byte) : Statement (.oraAbs b1 b2) := rfl
theorem oraAbx (b1 b2 : Byte) : Statement (.oraAbx b1 b2) := rfl
theorem oraAby (b1 b2 : Byte) : Statement (.oraAby b1 b2) := rfl
theorem oraIzx (b1 : Byte) : Statement (.oraIzx b1) := rfl
theorem oraIzy (b1 : Byte) : Statement (.oraIzy b1) := rfl
theorem eorImm (b1 : Byte) : Statement (.eorImm b1) := rfl
theorem eorZp0 (b1 : Byte) : Statement (.eorZp0 b1) := rfl
theorem eorZpx (b1 : Byte) : Statement (.eorZpx b1) := rfl
theorem eorAbs (b1 b2 : Byte) : Statement (.eorAbs b1 b2) := rfl
theorem eorAbx (b1 b2 : Byte) : Statement (.eorAbx b1 b2) := rfl
theorem eorAby (b1 b2 : Byte) : Statement (.eorAby b1 b2) := rfl
theorem eorIzx (b1 : Byte) : Statement (.eorIzx b1) := rfl
theorem eorIzy (b1 : Byte) : Statement (.eorIzy b1) := rfl
theorem cmpImm (b1 : Byte) : Statement (.cmpImm b1) := rfl
theorem cmpZp0 (b1 : Byte) : Statement (.cmpZp0 b1) := rfl
theorem cmpZpx (b1 : Byte) : Statement (.cmpZpx b1) := rfl
theorem cmpAbs (b1 b2 : Byte) : Statement (.cmpAbs b1 b2) := rfl
theorem cmpAbx (b1 b2 : Byte) : Statement (.cmpAbx b1 b2) := rfl
theorem cmpAby (b1 b2 : Byte) : Statement (.cmpAby b1 b2) := rfl
theorem cmpIzx (b1 : Byte) : Statement (.cmpIzx b1) := rfl
theorem cmpIzy (b1 : Byte) : Statement (.cmpIzy b1) := rfl
theorem cpxImm (b1 : Byte) : Statement (.cpxImm b1) := rfl
theorem cpxZp0 (b1 : Byte) : Statement (.cpxZp0 b1) := rfl
theorem cpxAbs (b1 b2 : Byte) : Statement (.cpxAbs b1 b2) := rfl
theorem cpyImm (b1 : Byte) : Statement (.cpyImm b1) := rfl
theorem cpyZp0 (b1 : Byte) : Statement (.cpyZp0 b1) := rfl
theorem cpyAbs (b1 b2 : Byte) : Statement (.cpyAbs b1 b2) := rfl
theorem bitZp0 (b1 : Byte) : Statement (.bitZp0 b1) := rfl
theorem bitAbs (b1 b2 : Byte) : Statement (.bitAbs b1 b2) := rfl
theorem incZp0 (b1 : Byte) : Statement (.incZp0 b1) := rfl
theorem incZpx (b1 : Byte) : Statement (.incZpx b1) := rfl
theorem incAbs (b1 b2 : Byte) : Statement (.incAbs b1 b2) := rfl
theorem incAbx (b1 b2 : Byte) : Statement (.incAbx b1 b2) := rfl
theorem decZp0 (b1 : Byte) : Statement (.decZp0 b1) := rfl
theorem decZpx (b1 : Byte) : Statement (.decZpx b1) := rfl
theorem decAbs (b1 b2 : Byte) : Statement (.decAbs b1 b2) := rfl
theorem decAbx (b1 b2 : Byte) : Statement (.decAbx b1 b2) := rfl
theorem inx : Statement .inx := rfl
theorem iny : Statement .iny := rfl
theorem dex : Statement .dex := rfl
theorem dey : Statement .dey := rfl
theorem aslAcc : Statement .aslAcc := rfl
theorem aslZp0 (b1 : Byte) : Statement (.aslZp0 b1) := rfl
theorem aslZpx (b1 : Byte) : Statement (.aslZpx b1) := rfl
theorem aslAbs (b1 b2 : Byte) : Statement (.aslAbs b1 b2) := rfl
theorem aslAbx (b1 b2 : Byte) : Statement (.aslAbx b1 b2) := rfl
theorem lsrAcc : Statement .lsrAcc := rfl
theorem lsrZp0 (b1 : Byte) : Statement (.lsrZp0 b1) := rfl
theorem lsrZpx (b1 : Byte) : Statement (.lsrZpx b1) := rfl
theorem lsrAbs (b1 b2 : Byte) : Statement (.lsrAbs b1 b2) := rfl
theorem lsrAbx (b1 b2 : Byte) : Statement (.lsrAbx b1 b2) := rfl
theorem rolAcc : Statement .rolAcc := rfl
theorem rolZp0 (b1 : Byte) : Statement (.rolZp0 b1) := rfl
theorem rolZpx (b1 : Byte) : Statement (.rolZpx b1) := rfl
theorem rolAbs (b1 b2 : Byte) : Statement (.rolAbs b1 b2) := rfl
theorem rolAbx (b1 b2 : Byte) : Statement (.rolAbx b1 b2) := rfl
theorem rorAcc : Statement .rorAcc := rfl
theorem rorZp0 (b1 : Byte) : Statement (.rorZp0 b1) := rfl
theorem rorZpx (b1 : Byte) : Statement (.rorZpx b1) := rfl
theorem rorAbs (b1 b2 : Byte) : Statement (.rorAbs b1 b2) := rfl
theorem rorAbx (b1 b2 : Byte) : Statement (.rorAbx b1 b2) := rfl
theorem bcc (b1 : Byte) : Statement (.bcc b1) := rfl
theorem bcs (b1 : Byte) : Statement (.bcs b1) := rfl
theorem beq (b1 : Byte) : Statement (.beq b1) := rfl
theorem bne (b1 : Byte) : Statement (.bne b1) := rfl
theorem bmi (b1 : Byte) : Statement (.bmi b1) := rfl
theorem bpl (b1 : Byte) : Statement (.bpl b1) := rfl
theorem bvc (b1 : Byte) : Statement (.bvc b1) := rfl
theorem bvs (b1 : Byte) : Statement (.bvs b1) := rfl
theorem jmpAbs (b1 b2 : Byte) : Statement (.jmpAbs b1 b2) := rfl
theorem jmpInd (b1 b2 : Byte) : Statement (.jmpInd b1 b2) := rfl
theorem jsrAbs (b1 b2 : Byte) : Statement (.jsrAbs b1 b2) := rfl
theorem rts : Statement .rts := rfl
theorem pha : Statement .pha := rfl
theorem pla : Statement .pla := rfl
theorem php : Statement .php := rfl
theorem plp : Statement .plp := rfl
theorem clc : Statement .clc := rfl
theorem sec : Statement .sec := rfl
theorem cli : Statement .cli := rfl
theorem sei : Statement .sei := rfl
theorem cld : Statement .cld := rfl
theorem sed : Statement .sed := rfl
theorem clv : Statement .clv := rfl
theorem nop : Statement .nop := rfl
theorem brk : Statement .brk := rfl
theorem rti : Statement .rti := rfl
theorem ill (opcode : Byte) : Statement (.ill opcode) := rfl

end Sys2Proof.Laws.EncodedLength
end

