-- ==== Sys2Proof/Laws/Words.lean ====
section
/-! SUPPORT. The byte, page and sign helpers in the arithmetic of naturals and integers, in which the spec's rules are
stated. -/

namespace Sys2Proof.Machine

theorem word16_toNat (hi lo : Byte) : (word16 hi lo).toNat = 256 * hi.toNat + lo.toNat := by
  unfold word16
  rw [BitVec.toNat_append]
  have := lo.isLt
  rw [Nat.shiftLeft_eq, Nat.mul_comm, ← Nat.two_pow_add_eq_or_of_lt (by omega)]

theorem word16_eq (hi lo : Byte) : word16 hi lo = BitVec.ofNat 16 (256 * hi.toNat + lo.toNat) := by
  apply BitVec.eq_of_toNat_eq
  rw [word16_toNat, BitVec.toNat_ofNat]
  have := lo.isLt
  have := hi.isLt
  omega

theorem hiByte_eq (v : Addr) : hiByte v = BitVec.ofNat 8 (v.toNat / 256) := by
  apply BitVec.eq_of_toNat_eq
  simp [hiByte, BitVec.extractLsb'_toNat, Nat.shiftRight_eq_div_pow]

theorem loByte_eq (v : Addr) : loByte v = BitVec.ofNat 8 (v.toNat % 256) := by
  apply BitVec.eq_of_toNat_eq
  simp [loByte, BitVec.extractLsb'_toNat]

/-- Splitting a 16-bit value into its bytes and joining them gives it back. -/
theorem word16_bytes (v : Addr) : word16 (hiByte v) (loByte v) = v := by
  apply BitVec.eq_of_toNat_eq
  rw [word16_toNat, hiByte_eq, loByte_eq]
  have := v.isLt
  simp only [BitVec.toNat_ofNat]
  omega

/-- The high byte of an address, kept in place. -/
theorem and_page_toNat (u : Addr) : (u &&& 0xFF00).toNat = 256 * (u.toNat / 256) := by
  have shifted : u &&& (0xFF00 : Addr) = (u >>> 8) <<< 8 := by
    apply BitVec.eq_of_getLsbD_eq
    intro i hi
    interval_cases i <;> simp
  rw [shifted]
  simp only [BitVec.toNat_shiftLeft, BitVec.toNat_ushiftRight, Nat.shiftLeft_eq, Nat.shiftRight_eq_div_pow]
  have := u.isLt
  omega

/-- Two addresses lie in one page if their quotients by 256 are equal (00_scope.md R8). -/
theorem samePage_eq (u v : Addr) : samePage u v = decide (u.toNat / 256 = v.toNat / 256) := by
  unfold samePage
  congr 1
  rw [eq_iff_iff, ← BitVec.toNat_inj, and_page_toNat, and_page_toNat]
  omega

/-- An indexed address and its page-cross report in naturals (40_addressing_modes.md R119, R120, R123). -/
theorem indexed_eq (base : Addr) (index : Byte) :
    indexed base index =
      ⟨BitVec.ofNat 16 ((base.toNat + index.toNat) % 65536),
       decide ((base.toNat + index.toNat) % 65536 / 256 ≠ base.toNat / 256)⟩ := by
  have sum : base + index.setWidth 16 = BitVec.ofNat 16 ((base.toNat + index.toNat) % 65536) := by
    apply BitVec.eq_of_toNat_eq
    simp only [BitVec.toNat_add, BitVec.toNat_setWidth, BitVec.toNat_ofNat]
    have := index.isLt
    omega
  simp only [indexed, samePage_eq, sum, BitVec.toNat_ofNat, decide_not, Nat.mod_mod]

/-- Bit 7 of a byte is its sign: 128 or more. -/
theorem sign_bit (v : Byte) : v.getLsbD 7 = decide (128 ≤ v.toNat) := by
  have := v.isLt
  rw [← BitVec.testBit_toNat, Nat.testBit_eq_decide_div_mod_eq]
  congr 1
  rw [eq_iff_iff]
  omega

/-- The signed value of a byte. -/
theorem byte_toInt (v : Byte) : v.toInt = if 128 ≤ v.toNat then (v.toNat : Int) - 256 else v.toNat := by
  have := v.isLt
  rw [BitVec.toInt_eq_toNat_cond]
  split_ifs <;> omega

/-- The carry out of an addition (42_arithmetic_logic.md R150). -/
theorem sumCarry_eq (a m : Byte) (c : Bool) : sumCarry a m c = decide (255 < a.toNat + m.toNat + c.toNat) := by
  have := a.isLt
  have := m.isLt
  have : c.toNat ≤ 1 := by cases c <;> decide
  unfold sumCarry sumWithCarry
  rw [Nat.testBit_eq_decide_div_mod_eq]
  congr 1
  rw [eq_iff_iff]
  omega

theorem sumByte_toNat (a m : Byte) (c : Bool) : (sumByte a m c).toNat = (a.toNat + m.toNat + c.toNat) % 256 := by
  simp [sumByte, sumWithCarry]

/-- A bit as a number. -/
theorem toNat_getLsbD {w : Nat} (v : BitVec w) (k : Nat) : (v.getLsbD k).toNat = v.toNat / 2 ^ k % 2 := by
  rw [BitVec.getLsbD, Nat.testBit_eq_decide_div_mod_eq]
  rcases Nat.mod_two_eq_zero_or_one (v.toNat / 2 ^ k) with h | h <;> simp [h]

/-- Masking bit 7 tests it. -/
theorem and_sign_ne_zero (v : Byte) : v &&& 0x80 ≠ 0 ↔ v.getLsbD 7 = true := by
  have h : v &&& (0x80 : Byte) = if v.getLsbD 7 then 0x80 else 0 := by
    apply BitVec.eq_of_getLsbD_eq
    intro i hi
    cases hv : v.getLsbD 7 <;> interval_cases i <;> simp_all
  rw [h]
  cases v.getLsbD 7 <;> decide

/-- `PLP` and `RTI` restore a legal status from what `PHP` and `BRK`, or an NMI, pushed (10_state.md R15). -/
theorem statusOfPulled_pushed (p : Byte) (unused : p.getLsbD 5 = true) (noBreak : p.getLsbD 4 = false) :
    statusOfPulled (pushedByBrk p) = p ∧ statusOfPulled (pushedByNmi p) = p := by
  unfold statusOfPulled pushedByBrk pushedByNmi
  constructor <;>
  · apply BitVec.eq_of_getLsbD_eq
    intro i hi
    simp only [BitVec.getLsbD_or, BitVec.getLsbD_and]
    interval_cases i <;> simp_all

end Sys2Proof.Machine
end

