-- ==== Sys2Proof/Laws/Ppu.lean ====
section
/-! SUPPORT. What the PPU's clocks can change (46_ppu_registers_and_timing.md R235 to R238; 47_ppu_rendering.md R263), and where
the counters stand after them. -/

namespace Sys2Proof.Machine

/-- `t` is `s` after PPU clocks: at most the two status flags, the NMI latch and request, the counters, the frame flags and
the frame buffer differ. -/
def TicksTo (s t : State) : Prop :=
  ∃ (vblank hit fired complete nmi : Bool) (x y count : Nat) (picture : Memory 6),
    t =
      { s with
        ppu :=
          { s.ppu with
            vblank := vblank, sprite0Hit := hit, nmiFired := fired, pixelX := x, pixelY := y
            frameComplete := complete, frameCount := count, framebuffer := picture }
        nmiPending := nmi }

theorem TicksTo.refl (s : State) : TicksTo s s :=
  ⟨s.ppu.vblank, s.ppu.sprite0Hit, s.ppu.nmiFired, s.ppu.frameComplete, s.nmiPending, s.ppu.pixelX, s.ppu.pixelY,
    s.ppu.frameCount, s.ppu.framebuffer, rfl⟩

theorem TicksTo.trans {s t u : State} (h : TicksTo s t) (g : TicksTo t u) : TicksTo s u := by
  obtain ⟨_, _, _, _, _, _, _, _, _, rfl⟩ := h
  obtain ⟨v, h, f, c, n, x, y, k, p, rfl⟩ := g
  exact ⟨v, h, f, c, n, x, y, k, p, rfl⟩

theorem TicksTo.a {s t : State} (h : TicksTo s t) : t.a = s.a := by
  obtain ⟨_, _, _, _, _, _, _, _, _, rfl⟩ := h; rfl

theorem TicksTo.x {s t : State} (h : TicksTo s t) : t.x = s.x := by
  obtain ⟨_, _, _, _, _, _, _, _, _, rfl⟩ := h; rfl

theorem TicksTo.y {s t : State} (h : TicksTo s t) : t.y = s.y := by
  obtain ⟨_, _, _, _, _, _, _, _, _, rfl⟩ := h; rfl

theorem TicksTo.sp {s t : State} (h : TicksTo s t) : t.sp = s.sp := by
  obtain ⟨_, _, _, _, _, _, _, _, _, rfl⟩ := h; rfl

theorem TicksTo.pc {s t : State} (h : TicksTo s t) : t.pc = s.pc := by
  obtain ⟨_, _, _, _, _, _, _, _, _, rfl⟩ := h; rfl

theorem TicksTo.p {s t : State} (h : TicksTo s t) : t.p = s.p := by
  obtain ⟨_, _, _, _, _, _, _, _, _, rfl⟩ := h; rfl

theorem TicksTo.stallCycles {s t : State} (h : TicksTo s t) : t.stallCycles = s.stallCycles := by
  obtain ⟨_, _, _, _, _, _, _, _, _, rfl⟩ := h; rfl

theorem TicksTo.cpuCycles {s t : State} (h : TicksTo s t) : t.cpuCycles = s.cpuCycles := by
  obtain ⟨_, _, _, _, _, _, _, _, _, rfl⟩ := h; rfl

theorem TicksTo.fault {s t : State} (h : TicksTo s t) : t.fault = s.fault := by
  obtain ⟨_, _, _, _, _, _, _, _, _, rfl⟩ := h; rfl

theorem TicksTo.ram {s t : State} (h : TicksTo s t) : t.ram = s.ram := by
  obtain ⟨_, _, _, _, _, _, _, _, _, rfl⟩ := h; rfl

theorem TicksTo.pads {s t : State} (h : TicksTo s t) : t.pads = s.pads := by
  obtain ⟨_, _, _, _, _, _, _, _, _, rfl⟩ := h; rfl

theorem TicksTo.cart {s t : State} (h : TicksTo s t) : t.cart = s.cart := by
  obtain ⟨_, _, _, _, _, _, _, _, _, rfl⟩ := h; rfl

theorem TicksTo.params {s t : State} (h : TicksTo s t) : t.params = s.params := by
  obtain ⟨_, _, _, _, _, _, _, _, _, rfl⟩ := h; rfl

theorem TicksTo.ppu_ctrl {s t : State} (h : TicksTo s t) : t.ppu.ctrl = s.ppu.ctrl := by
  obtain ⟨_, _, _, _, _, _, _, _, _, rfl⟩ := h; rfl

theorem TicksTo.ppu_mask {s t : State} (h : TicksTo s t) : t.ppu.mask = s.ppu.mask := by
  obtain ⟨_, _, _, _, _, _, _, _, _, rfl⟩ := h; rfl

theorem TicksTo.ppu_oamAddr {s t : State} (h : TicksTo s t) : t.ppu.oamAddr = s.ppu.oamAddr := by
  obtain ⟨_, _, _, _, _, _, _, _, _, rfl⟩ := h; rfl

theorem TicksTo.ppu_w {s t : State} (h : TicksTo s t) : t.ppu.w = s.ppu.w := by
  obtain ⟨_, _, _, _, _, _, _, _, _, rfl⟩ := h; rfl

theorem TicksTo.ppu_vramAddr {s t : State} (h : TicksTo s t) : t.ppu.vramAddr = s.ppu.vramAddr := by
  obtain ⟨_, _, _, _, _, _, _, _, _, rfl⟩ := h; rfl

theorem TicksTo.ppu_dataBuffer {s t : State} (h : TicksTo s t) : t.ppu.dataBuffer = s.ppu.dataBuffer := by
  obtain ⟨_, _, _, _, _, _, _, _, _, rfl⟩ := h; rfl

theorem TicksTo.ppu_scrollX {s t : State} (h : TicksTo s t) : t.ppu.scrollX = s.ppu.scrollX := by
  obtain ⟨_, _, _, _, _, _, _, _, _, rfl⟩ := h; rfl

theorem TicksTo.ppu_scrollY {s t : State} (h : TicksTo s t) : t.ppu.scrollY = s.ppu.scrollY := by
  obtain ⟨_, _, _, _, _, _, _, _, _, rfl⟩ := h; rfl

theorem TicksTo.ppu_vram {s t : State} (h : TicksTo s t) : t.ppu.vram = s.ppu.vram := by
  obtain ⟨_, _, _, _, _, _, _, _, _, rfl⟩ := h; rfl

theorem TicksTo.ppu_oam {s t : State} (h : TicksTo s t) : t.ppu.oam = s.ppu.oam := by
  obtain ⟨_, _, _, _, _, _, _, _, _, rfl⟩ := h; rfl

/-- The pixel of a tile row in arithmetic: plane 1 is worth 2, plane 0 is worth 1 (47 R254, R257). -/
theorem patternPixel_eq (s : State) (addr column : Nat) :
    patternPixel s addr column =
      2 * ((ppuRead s (BitVec.ofNat 14 (addr + 8))).toNat / 2 ^ (7 - column) % 2) +
        (ppuRead s (BitVec.ofNat 14 addr)).toNat / 2 ^ (7 - column) % 2 := by
  simp only [patternPixel, toNat_getLsbD]

theorem vblankEnter_eq (s : State) :
    vblankEnter s =
      { s with
        ppu := { s.ppu with vblank := true, nmiFired := s.ppu.nmiFired || s.ppu.nmiEnable }
        nmiPending := s.nmiPending || (s.ppu.nmiEnable && !s.ppu.nmiFired) } := by
  unfold vblankEnter
  dsimp only
  split_ifs with h
  · simp only [requestNmiOnce_eq, h, Bool.or_true, Bool.true_and]
  · simp only [Bool.not_eq_true] at h
    simp only [h, Bool.or_false, Bool.false_and]

theorem positionEvents_ticks (s : State) : TicksTo s (positionEvents s) := by
  unfold positionEvents
  dsimp only
  split_ifs
  · rw [vblankEnter_eq]
    exact ⟨_, s.ppu.sprite0Hit, _, s.ppu.frameComplete, _, s.ppu.pixelX, s.ppu.pixelY, s.ppu.frameCount,
      s.ppu.framebuffer, rfl⟩
  · exact ⟨_, _, _, s.ppu.frameComplete, s.nmiPending, s.ppu.pixelX, s.ppu.pixelY, s.ppu.frameCount,
      s.ppu.framebuffer, rfl⟩
  · exact ⟨s.ppu.vblank, _, s.ppu.nmiFired, s.ppu.frameComplete, s.nmiPending, s.ppu.pixelX, s.ppu.pixelY,
      s.ppu.frameCount, _, rfl⟩
  · exact TicksTo.refl s

theorem advancePosition_ticks (s : State) : TicksTo s (advancePosition s) := by
  unfold advancePosition
  split_ifs <;>
    exact ⟨s.ppu.vblank, s.ppu.sprite0Hit, s.ppu.nmiFired, _, s.nmiPending, _, _, _, s.ppu.framebuffer, rfl⟩

theorem ppuTick_ticks (s : State) : TicksTo s (ppuTick s) :=
  (positionEvents_ticks s).trans (advancePosition_ticks _)

/-- Any number of PPU clocks changes no more than one clock can. -/
theorem ppuTicks_ticks (n : Nat) (s : State) : TicksTo s (ppuTicks n s) := by
  induction n generalizing s with
  | zero => exact TicksTo.refl s
  | succ n ih => exact (ppuTick_ticks s).trans (ih _)

theorem ppuTicks_add (m n : Nat) (s : State) : ppuTicks (m + n) s = ppuTicks n (ppuTicks m s) := by
  induction m generalizing s with
  | zero => simp [ppuTicks]
  | succ m ih => rw [Nat.succ_add]; exact ih _

@[simp] theorem positionEvents_pixelX (s : State) : (positionEvents s).ppu.pixelX = s.ppu.pixelX := by
  unfold positionEvents
  dsimp only
  split_ifs <;> first | rfl | rw [vblankEnter_eq]

@[simp] theorem positionEvents_pixelY (s : State) : (positionEvents s).ppu.pixelY = s.ppu.pixelY := by
  unfold positionEvents
  dsimp only
  split_ifs <;> first | rfl | rw [vblankEnter_eq]

@[simp] theorem positionEvents_frameCount (s : State) : (positionEvents s).ppu.frameCount = s.ppu.frameCount := by
  unfold positionEvents
  dsimp only
  split_ifs <;> first | rfl | rw [vblankEnter_eq]

@[simp] theorem positionEvents_frameComplete (s : State) :
    (positionEvents s).ppu.frameComplete = s.ppu.frameComplete := by
  unfold positionEvents
  dsimp only
  split_ifs <;> first | rfl | rw [vblankEnter_eq]

/-- The advance of the counters keeps the PPU's other fields. -/
theorem advancePosition_eq (s : State) :
    advancePosition s =
      { s with
        ppu :=
          { s.ppu with
            pixelX := if s.ppu.pixelX = 340 then 0 else s.ppu.pixelX + 1
            pixelY :=
              if s.ppu.pixelX = 340 then (if s.ppu.pixelY = 261 then 0 else s.ppu.pixelY + 1) else s.ppu.pixelY
            frameComplete := s.ppu.frameComplete || decide (s.ppu.pixelX = 340 ∧ s.ppu.pixelY = 261)
            frameCount := s.ppu.frameCount + (if s.ppu.pixelX = 340 ∧ s.ppu.pixelY = 261 then 1 else 0) } } := by
  unfold advancePosition
  split_ifs <;> first | omega | simp_all

end Sys2Proof.Machine
end

