-- ==== Sys2Proof/Laws/Step.lean ====
section
/-! SUPPORT. What an interrupt entry, the reading of an instruction, the reset and a load do, each said once, and what `step`
is in a state that has one. -/

namespace Sys2Proof.Machine

/-- Interrupt entry through a vector in PRG-ROM (45 R212, 60 R305): three pushes, InterruptDisable, `PC` from the vector. -/
theorem takeInterrupt_eq (status : Byte) {vector : Addr} (s : State) (h : 0x8000 ≤ vector.toNat)
    (h1 : 0x8000 ≤ (vector + 1).toNat) :
    takeInterrupt status vector s =
      { s with
        ram :=
          Memory.write
            (Memory.write (Memory.write s.ram (0x100 + s.sp.toNat) (hiByte s.pc)) (0x100 + (s.sp - 1).toNat)
              (loByte s.pc))
            (0x100 + (s.sp - 2).toNat) status
        sp := s.sp - 3
        p := putFlag .interruptDisable true s.p
        pc :=
          word16 (Memory.read s.cart.prg (s.cart.prgIndex (vector + 1)))
            (Memory.read s.cart.prg (s.cart.prgIndex vector)) } := by
  have three : s.sp - 2 - 1 = s.sp - 3 := by rw [BitVec.sub_sub]; rfl
  simp only [takeInterrupt, push16_eq, push_eq, read16_prg _ h h1, State.setFlag, three]

/-- Return from an interrupt (45 R213): three pulls. -/
theorem returnFromInterrupt_eq (s : State) :
    returnFromInterrupt s =
      { s with
        p := statusOfPulled (Memory.read s.ram (0x100 + (s.sp + 1).toNat))
        pc :=
          word16 (Memory.read s.ram (0x100 + (s.sp + 3).toNat)) (Memory.read s.ram (0x100 + (s.sp + 2).toNat))
        sp := s.sp + 3 } := by
  have two : s.sp + 1 + 1 = s.sp + 2 := by rw [BitVec.add_assoc]; rfl
  have three : s.sp + 1 + 2 = s.sp + 3 := by rw [BitVec.add_assoc]; rfl
  simp only [returnFromInterrupt, pull_eq, pull16_eq, two, three]

/-- Reading instruction bytes changes at most what reads change, and `PC`. -/
theorem readCode_reads (n : Nat) (s : State) :
    ∃ u, ReadsTo s u ∧ (readCode n s).2 = { u with pc := s.pc + BitVec.ofNat 16 n } := by
  induction n generalizing s with
  | zero => exact ⟨s, ReadsTo.refl s, by simp [readCode]⟩
  | succ n ih =>
    obtain ⟨u, reads, after⟩ := ih { (busRead s.pc s).2 with pc := s.pc + 1 }
    refine ⟨{ u with pc := (busRead s.pc s).2.pc }, (busRead_frame s.pc s).trans ?_, ?_⟩
    · obtain ⟨v, w, b, d, p, q, hv, rfl⟩ := reads
      exact ⟨v, w, b, d, p, q, hv, rfl⟩
    · have sum : s.pc + 1 + BitVec.ofNat 16 n = s.pc + BitVec.ofNat 16 (n + 1) := by
        rw [BitVec.add_assoc, Nat.add_comm n 1, BitVec.ofNat_add]
        rfl
      simp only [readCode]
      rw [after, ← sum]

/-- The step of a machine that has one is its CPU action and the PPU's catching up (70 R326). -/
theorem step_of_running {s : State} (h : s.fault = none) (hc : s.cart.inRange = true) :
    step s = afterAction s (cpuAction s) := by
  simp only [step, h, hc, if_true]

/-- The PPU's catching up changes no more than PPU clocks can. -/
theorem catchUp_ticks (before after : State) : TicksTo after (catchUp before after) := ppuTicks_ticks _ _

/-- A reset (70 R320) is the initial state with `PC` from the two vector bytes and the reset stall. -/
theorem machineReset_eq (p : Params) (c : Cartridge) :
    machineReset p c =
      { initialState p c with
        pc :=
          word16 (Memory.read c.prg ((c.afterReset p).prgIndex 0xFFFD))
            (Memory.read c.prg ((c.afterReset p).prgIndex 0xFFFC))
        stallCycles := p.resetCycles } := by
  unfold machineReset
  rw [read16_prg (initialState p c) (by decide) (by decide)]
  rfl

/-- A load that succeeds (48 R270): what the image was, and what the cartridge is. -/
theorem loadImage_ok {p : Params} {bytes : List Byte} {c : Cartridge} (h : loadImage p bytes = .ok c) :
    bytes.take 4 = [0x4E, 0x45, 0x53, 0x1A] ∧ (bytes.getD 6 0).getLsbD 2 = false ∧ 1 ≤ (bytes.getD 4 0).toNat ∧
    16 + 16384 * (bytes.getD 4 0).toNat + 8192 * (bytes.getD 5 0).toNat ≤ bytes.length ∧
    ∃ m,
      Mapper.ofNumber ((bytes.getD 7 0 &&& (0xF0 : Byte)) ||| (bytes.getD 6 0 >>> 4)).toNat
        (HeaderMirroring.mode (if (bytes.getD 6 0).getLsbD 0 then .v else .h)) p.initPrgRam = some m ∧
      c =
        { prgBanks := (bytes.getD 4 0).toNat
          chrBanks := if (bytes.getD 5 0).toNat = 0 then 1 else (bytes.getD 5 0).toNat
          chrIsRam := decide ((bytes.getD 5 0).toNat = 0)
          headerMirroring := if (bytes.getD 6 0).getLsbD 0 then .v else .h
          battery := (bytes.getD 6 0).getLsbD 1
          mapper := m
          prg := Memory.ofBytes ((bytes.drop 16).take (16384 * (bytes.getD 4 0).toNat))
          chr :=
            if (bytes.getD 5 0).toNat = 0 then p.initChrRam
            else
              Memory.ofBytes
                ((bytes.drop (16 + 16384 * (bytes.getD 4 0).toNat)).take (8192 * (bytes.getD 5 0).toNat)) } := by
  unfold loadImage at h
  dsimp only at h
  by_cases magic : bytes.take 4 = [0x4E, 0x45, 0x53, 0x1A]
  swap
  · rw [if_pos magic] at h
    cases h
  rw [if_neg (not_not.mpr magic)] at h
  by_cases trainer : (bytes.getD 6 0).getLsbD 2 = true
  · rw [if_pos trainer] at h
    cases h
  rw [if_neg trainer] at h
  generalize hm : Mapper.ofNumber ((bytes.getD 7 0 &&& (0xF0 : Byte)) ||| (bytes.getD 6 0 >>> 4)).toNat
    (HeaderMirroring.mode (if (bytes.getD 6 0).getLsbD 0 then .v else .h)) p.initPrgRam = mapper at h ⊢
  cases mapper with
  | none => cases h
  | some m =>
    dsimp only at h
    by_cases banks : (bytes.getD 4 0).toNat = 0
    · rw [if_pos banks] at h
      cases h
    rw [if_neg banks] at h
    by_cases short : bytes.length < 16 + 16384 * (bytes.getD 4 0).toNat + 8192 * (bytes.getD 5 0).toNat
    · rw [if_pos short] at h
      cases h
    rw [if_neg short] at h
    exact ⟨magic, by simpa using trainer, by omega, by omega, m, rfl, (Except.ok.inj h).symm⟩

/-- The memories of `State.reset` are canonical. -/
theorem State.reset_memory : State.reset.MemoryLegal := ⟨rfl, rfl, rfl, rfl⟩

/-- The cartridge of `State.reset` is legal. -/
theorem State.reset_cart : State.reset.cart.Legal := ⟨by decide, rfl, rfl, rfl⟩

end Sys2Proof.Machine
end

