-- ==== Sys2Proof/Tests/Slice0.lean ====
section
/-! SUPPORT. The model's own tests: ill-formed instructions, encodings written out from the spec, one step of each kind of
instruction against spec/95_test_vectors.md, the devices against that file, and a witness for the hypotheses of each
obligation. -/

namespace Sys2Proof.Tests

-- The kernel evaluates these tests one after the other; elaborating them at once would only hold a thread for each.
set_option Elab.async false

open Sys2Proof Sys2Proof.Machine

/-! ### Helpers -/

/-- A memory with the given cells. -/
def poke (cells : List (Nat × Byte)) : Memory 8 := cells.foldr (fun c m => Memory.write m c.1 c.2) []

/-- "The test image" of 95_test_vectors.md with the code at an offset of PRG-ROM, NMI vector 0x8040, BRK vector 0x9000. -/
def testImage (offset : Nat) (code : List Byte) : Cartridge :=
  { Cartridge.blank with
    prg :=
      Memory.ofBytesFrom offset code ++
        [(0x3FFA, 0x40), (0x3FFB, 0x80), (0x3FFD, 0x80), (0x3FFF, 0x90)] }

/-- The test image after its reset stall, at an address of 0x8000 or above. -/
def startAt (address : Addr) (code : List Byte) : State :=
  { machineReset {} (testImage (address.toNat - 0x8000) code) with pc := address, stallCycles := 0 }

/-- The test image after its reset stall, at 0x8000. -/
def start (code : List Byte) : State := startAt 0x8000 code

/-- What one step ends with, seen through a function of the next state. -/
def after {α : Type} (s : State) (view : State → α) : Option α :=
  match step s with
  | .next t => some (view t)
  | .fault _ => none
  | .refused _ => none

/-- Bus writes, one after the other. -/
def writes (accesses : List (Addr × Byte)) (s : State) : State := accesses.foldl (fun s a => busWrite a.1 a.2 s) s

/-- The test machine with another mapper and more banks. -/
def withMapper (m : Mapper) (prgBanks chrBanks : Nat) : State :=
  { start [] with cart := { Cartridge.blank with mapper := m, prgBanks := prgBanks, chrBanks := chrBanks } }

/-! ### Well-formedness -/

/-- The byte of `ill` must be an undefined opcode (30_encoding.md R94): 0xA9 is `LDA`. -/
theorem test_ill_formed : (Instr.ill 0xA9).wellFormed = false := by decide

/-- Of the same list: 0x02 is undefined, and every field of another instruction takes every value. -/
theorem test_well_formed :
    (Instr.ill 0x02).wellFormed = true ∧ (Instr.ldaAbs 0xFF 0xFF).wellFormed = true := by decide

/-! ### Encodings, from 30_encoding.md R91, R93, R95 -/

/-- Every constructor's opcode, by mnemonic in the order of R95. -/
theorem test_opcodes_by_mnemonic (b1 b2 : Byte) :
    let map := fun (opcodes : List Byte) => opcodes.map (fun op => instrOf op b1 b2)
    map [0x69, 0x65, 0x75, 0x6D, 0x7D, 0x79, 0x61, 0x71] =
      [.adcImm b1, .adcZp0 b1, .adcZpx b1, .adcAbs b1 b2, .adcAbx b1 b2, .adcAby b1 b2, .adcIzx b1, .adcIzy b1] ∧
    map [0x29, 0x25, 0x35, 0x2D, 0x3D, 0x39, 0x21, 0x31] =
      [.andImm b1, .andZp0 b1, .andZpx b1, .andAbs b1 b2, .andAbx b1 b2, .andAby b1 b2, .andIzx b1, .andIzy b1] ∧
    map [0x0A, 0x06, 0x16, 0x0E, 0x1E] =
      [.aslAcc, .aslZp0 b1, .aslZpx b1, .aslAbs b1 b2, .aslAbx b1 b2] ∧
    map [0x90, 0xB0, 0xF0, 0x30, 0xD0, 0x10, 0x50, 0x70] =
      [.bcc b1, .bcs b1, .beq b1, .bmi b1, .bne b1, .bpl b1, .bvc b1, .bvs b1] ∧
    map [0x24, 0x2C] = [.bitZp0 b1, .bitAbs b1 b2] ∧
    map [0x00] = [.brk] ∧
    map [0x18, 0xD8, 0x58, 0xB8] = [.clc, .cld, .cli, .clv] ∧
    map [0xC9, 0xC5, 0xD5, 0xCD, 0xDD, 0xD9, 0xC1, 0xD1] =
      [.cmpImm b1, .cmpZp0 b1, .cmpZpx b1, .cmpAbs b1 b2, .cmpAbx b1 b2, .cmpAby b1 b2, .cmpIzx b1, .cmpIzy b1] ∧
    map [0xE0, 0xE4, 0xEC] = [.cpxImm b1, .cpxZp0 b1, .cpxAbs b1 b2] ∧
    map [0xC0, 0xC4, 0xCC] = [.cpyImm b1, .cpyZp0 b1, .cpyAbs b1 b2] ∧
    map [0xC6, 0xD6, 0xCE, 0xDE] = [.decZp0 b1, .decZpx b1, .decAbs b1 b2, .decAbx b1 b2] ∧
    map [0xCA, 0x88] = [.dex, .dey] ∧
    map [0x49, 0x45, 0x55, 0x4D, 0x5D, 0x59, 0x41, 0x51] =
      [.eorImm b1, .eorZp0 b1, .eorZpx b1, .eorAbs b1 b2, .eorAbx b1 b2, .eorAby b1 b2, .eorIzx b1, .eorIzy b1] ∧
    map [0xE6, 0xF6, 0xEE, 0xFE] = [.incZp0 b1, .incZpx b1, .incAbs b1 b2, .incAbx b1 b2] ∧
    map [0xE8, 0xC8] = [.inx, .iny] ∧
    map [0x4C, 0x6C] = [.jmpAbs b1 b2, .jmpInd b1 b2] ∧
    map [0x20] = [.jsrAbs b1 b2] ∧
    map [0xA9, 0xA5, 0xB5, 0xAD, 0xBD, 0xB9, 0xA1, 0xB1] =
      [.ldaImm b1, .ldaZp0 b1, .ldaZpx b1, .ldaAbs b1 b2, .ldaAbx b1 b2, .ldaAby b1 b2, .ldaIzx b1, .ldaIzy b1] ∧
    map [0xA2, 0xA6, 0xB6, 0xAE, 0xBE] = [.ldxImm b1, .ldxZp0 b1, .ldxZpy b1, .ldxAbs b1 b2, .ldxAby b1 b2] ∧
    map [0xA0, 0xA4, 0xB4, 0xAC, 0xBC] = [.ldyImm b1, .ldyZp0 b1, .ldyZpx b1, .ldyAbs b1 b2, .ldyAbx b1 b2] ∧
    map [0x4A, 0x46, 0x56, 0x4E, 0x5E] = [.lsrAcc, .lsrZp0 b1, .lsrZpx b1, .lsrAbs b1 b2, .lsrAbx b1 b2] ∧
    map [0xEA] = [.nop] ∧
    map [0x09, 0x05, 0x15, 0x0D, 0x1D, 0x19, 0x01, 0x11] =
      [.oraImm b1, .oraZp0 b1, .oraZpx b1, .oraAbs b1 b2, .oraAbx b1 b2, .oraAby b1 b2, .oraIzx b1, .oraIzy b1] ∧
    map [0x48, 0x08, 0x68, 0x28] = [.pha, .php, .pla, .plp] ∧
    map [0x2A, 0x26, 0x36, 0x2E, 0x3E] = [.rolAcc, .rolZp0 b1, .rolZpx b1, .rolAbs b1 b2, .rolAbx b1 b2] ∧
    map [0x6A, 0x66, 0x76, 0x6E, 0x7E] = [.rorAcc, .rorZp0 b1, .rorZpx b1, .rorAbs b1 b2, .rorAbx b1 b2] ∧
    map [0x40] = [.rti] ∧
    map [0x60] = [.rts] ∧
    map [0xE9, 0xE5, 0xF5, 0xED, 0xFD, 0xF9, 0xE1, 0xF1] =
      [.sbcImm b1, .sbcZp0 b1, .sbcZpx b1, .sbcAbs b1 b2, .sbcAbx b1 b2, .sbcAby b1 b2, .sbcIzx b1, .sbcIzy b1] ∧
    map [0x38, 0xF8, 0x78] = [.sec, .sed, .sei] ∧
    map [0x85, 0x95, 0x8D, 0x9D, 0x99, 0x81, 0x91] =
      [.staZp0 b1, .staZpx b1, .staAbs b1 b2, .staAbx b1 b2, .staAby b1 b2, .staIzx b1, .staIzy b1] ∧
    map [0x86, 0x96, 0x8E] = [.stxZp0 b1, .stxZpy b1, .stxAbs b1 b2] ∧
    map [0x84, 0x94, 0x8C] = [.styZp0 b1, .styZpx b1, .styAbs b1 b2] ∧
    map [0xAA, 0xA8, 0xBA, 0x8A, 0x9A, 0x98] = [.tax, .tay, .tsx, .txa, .txs, .tya] := by
  exact ⟨rfl, rfl, rfl, rfl, rfl, rfl, rfl, rfl, rfl, rfl, rfl, rfl, rfl, rfl, rfl, rfl, rfl, rfl, rfl, rfl, rfl, rfl, rfl, rfl, rfl, rfl, rfl, rfl, rfl, rfl, rfl, rfl, rfl, rfl⟩

/-- Loads: LDA ABS is 1010 1101, then the low byte, then the high byte. -/
theorem test_decode_load : decode [0b10101101, 0x34, 0x12] = .ok (.ldaAbs 0x34 0x12, []) := by decide +kernel

/-- Stores: STX ZPY is 1001 0110, one operand byte. -/
theorem test_decode_store : decode [0b10010110, 0x10, 0xEA] = .ok (.stxZpy 0x10, [0xEA]) := by decide +kernel

/-- Transfers: TSX is 1011 1010, one byte. -/
theorem test_decode_transfer : decode [0b10111010, 0xEA] = .ok (.tsx, [0xEA]) := by decide +kernel

/-- Arithmetic: SBC IZY is 1111 0001, one operand byte. -/
theorem test_decode_arithmetic : decode [0b11110001, 0x20] = .ok (.sbcIzy 0x20, []) := by decide +kernel

/-- Shifts: ROL ABX is 0011 1110, two operand bytes. -/
theorem test_decode_shift : decode [0b00111110, 0x00, 0x03] = .ok (.rolAbx 0x00 0x03, []) := by decide +kernel

/-- Branches: BVS is 0111 0000, the displacement byte. -/
theorem test_decode_branch : decode [0b01110000, 0x80] = .ok (.bvs 0x80, []) := by decide +kernel

/-- Jumps: JMP IND is 0110 1100, two operand bytes. -/
theorem test_decode_jump : decode [0b01101100, 0xFF, 0x02] = .ok (.jmpInd 0xFF 0x02, []) := by decide +kernel

/-- System: RTI is 0100 0000; BRK is 0000 0000 and one byte long for the decoder (R92). -/
theorem test_decode_system : decode [0b01000000] = .ok (.rti, []) ∧ decode [0b00000000, 0x01] = .ok (.brk, [0x01]) := by
  decide +kernel

/-- Too few bytes do not decode, and say so by name. -/
theorem test_decode_short :
    decode [] = .error .noOpcode ∧ decode [0xAD, 0x00] = .error (.missingOperand 0xAD) := by decide +kernel

/-- The table's bit numbering: the opcode in bits 7 to 0, the operand bytes above it. -/
theorem test_table_word : decodeTableWord 24 0x1234AD = some (.ldaAbs 0x34 0x12) ∧ decodeTableWord 8 0xAD = some (.ldaAbs 0 0) := by
  decide +kernel

/-- The placed instruction is the one the next step runs, from the reset state. -/
theorem test_with_fetch_word :
    after (State.reset.withFetchWord 16 0x05A9) (fun t => (t.a, t.pc, t.cpuCycles)) = some (0x05, 0x0002, 2) := by
  decide +kernel

/-! ### One step of each instruction, from 95_test_vectors.md -/

/-- F1: `LDA #$80` -/
theorem test_lda_imm :
    after (start [0xA9, 0x80]) (fun t => (t.a, t.p, t.cpuCycles)) =
      some (0x80, 0xA4, 2) := by
  decide +kernel

/-- F1: `LDA $10` -/
theorem test_lda_zp0 :
    after { start [0xA5, 0x10] with ram := poke [(0x10, 0x7F)] } (fun t => (t.a, t.p, t.cpuCycles)) =
      some (0x7F, 0x24, 3) := by
  decide +kernel

/-- F1: `LDA $F0,X` -/
theorem test_lda_zpx :
    after { start [0xB5, 0xF0] with x := 0x20, ram := poke [(0x10, 0x33), (0x110, 0x44)] }
        (fun t => (t.a, t.cpuCycles)) =
      some (0x33, 4) := by
  decide +kernel

/-- F1: `LDA $0234` -/
theorem test_lda_abs :
    after { start [0xAD, 0x34, 0x02] with ram := poke [(0x234, 0x99)] } (fun t => (t.a, t.p, t.pc, t.cpuCycles)) =
      some (0x99, 0xA4, 0x8003, 4) := by
  decide +kernel

/-- F1: `LDA $02F0,X` -/
theorem test_lda_abx :
    after { start [0xBD, 0xF0, 0x02] with x := 0x0F, ram := poke [(0x2FF, 0x11)] } (fun t => (t.a, t.cpuCycles)) =
      some (0x11, 4) := by
  decide +kernel

/-- F1: `LDA $02F0,X` -/
theorem test_lda_abx_again :
    after { start [0xBD, 0xF0, 0x02] with x := 0x20, ram := poke [(0x310, 0x22)] } (fun t => (t.a, t.cpuCycles)) =
      some (0x22, 5) := by
  decide +kernel

/-- F1: `LDA $02FF,Y` -/
theorem test_lda_aby :
    after { start [0xB9, 0xFF, 0x02] with y := 0x01, ram := poke [(0x300, 0x5A)] } (fun t => (t.a, t.cpuCycles)) =
      some (0x5A, 5) := by
  decide +kernel

/-- F1: `LDA ($FE,X)` -/
theorem test_lda_izx :
    after { start [0xA1, 0xFE] with x := 0x01, ram := poke [(0xFF, 0x00), (0x00, 0x03), (0x300, 0xC3)] }
        (fun t => (t.a, t.p, t.cpuCycles)) =
      some (0xC3, 0xA4, 6) := by
  decide +kernel

/-- F1: `LDA ($20),Y` -/
theorem test_lda_izy :
    after { start [0xB1, 0x20] with y := 0x20, ram := poke [(0x310, 0x77), (0x20, 0xF0), (0x21, 0x02)] }
        (fun t => (t.a, t.cpuCycles)) =
      some (0x77, 6) := by
  decide +kernel

/-- F1: `LDA ($FF),Y` -/
theorem test_lda_izy_again :
    after { start [0xB1, 0xFF] with y := 0x00, ram := poke [(0xFF, 0x40), (0x00, 0x03), (0x100, 0x07), (0x340, 0x88)] }
        (fun t => (t.a, t.cpuCycles)) =
      some (0x88, 5) := by
  decide +kernel

/-- F1: `LDX $FF,Y` -/
theorem test_ldx_zpy :
    after { start [0xB6, 0xFF] with y := 0x01, ram := poke [(0x00, 0xAB), (0x100, 0xCD)] }
        (fun t => (t.x, t.p, t.cpuCycles)) =
      some (0xAB, 0xA4, 4) := by
  decide +kernel

/-- F1: `LDX $02FF,Y` -/
theorem test_ldx_aby :
    after { start [0xBE, 0xFF, 0x02] with y := 0x01, ram := poke [(0x300, 0x01)] } (fun t => (t.x, t.cpuCycles)) =
      some (0x01, 5) := by
  decide +kernel

/-- F1: `LDY $02FF,X` -/
theorem test_ldy_abx :
    after { start [0xBC, 0xFF, 0x02] with x := 0x01, y := 0x09, ram := poke [(0x300, 0x00)] }
        (fun t => (t.y, t.p, t.cpuCycles)) =
      some (0x00, 0x26, 5) := by
  decide +kernel

/-- F1: `STA $10` -/
theorem test_sta_zp0 :
    after { start [0x85, 0x10] with a := 0x42 } (fun t => (Memory.read t.ram 0x10, t.p, t.cpuCycles)) =
      some (0x42, 0x24, 3) := by
  decide +kernel

/-- F1: `STA $02F0,X` -/
theorem test_sta_abx :
    after { start [0x9D, 0xF0, 0x02] with a := 0x42, x := 0x20 } (fun t => (Memory.read t.ram 0x310, t.cpuCycles)) =
      some (0x42, 5) := by
  decide +kernel

/-- F1: `STA $02F0,Y` -/
theorem test_sta_aby :
    after { start [0x99, 0xF0, 0x02] with a := 0x42, y := 0x20 } (fun t => (Memory.read t.ram 0x310, t.cpuCycles)) =
      some (0x42, 5) := by
  decide +kernel

/-- F1: `STA ($20),Y` -/
theorem test_sta_izy :
    after { start [0x91, 0x20] with a := 0x42, y := 0x20, ram := poke [(0x20, 0xF0), (0x21, 0x02)] }
        (fun t => (Memory.read t.ram 0x310, t.cpuCycles)) =
      some (0x42, 6) := by
  decide +kernel

/-- F1: `STA ($20,X)` -/
theorem test_sta_izx :
    after { start [0x81, 0x20] with a := 0x42, x := 0x04, ram := poke [(0x24, 0x00), (0x25, 0x03)] }
        (fun t => (Memory.read t.ram 0x300, t.cpuCycles)) =
      some (0x42, 6) := by
  decide +kernel

/-- F1: `STA $0810` -/
theorem test_sta_abs :
    after { start [0x8D, 0x10, 0x08] with a := 0x9C } (fun t => (Memory.read t.ram 0x010, t.cpuCycles)) =
      some (0x9C, 4) := by
  decide +kernel

/-- F1: `STX $10,Y` -/
theorem test_stx_zpy :
    after { start [0x96, 0x10] with x := 0x77, y := 0xF8 } (fun t => (Memory.read t.ram 0x08, t.cpuCycles)) =
      some (0x77, 4) := by
  decide +kernel

/-- F1: `STY $10,X` -/
theorem test_sty_zpx :
    after { start [0x94, 0x10] with y := 0x66, x := 0x01 } (fun t => (Memory.read t.ram 0x11, t.cpuCycles)) =
      some (0x66, 4) := by
  decide +kernel

/-- F1: `TAX` -/
theorem test_tax :
    after { start [0xAA] with a := 0x80 } (fun t => (t.x, t.p, t.cpuCycles)) =
      some (0x80, 0xA4, 2) := by
  decide +kernel

/-- F1: `TAY` -/
theorem test_tay :
    after { start [0xA8] with a := 0x00, y := 0x05 } (fun t => (t.y, t.p, t.cpuCycles)) =
      some (0x00, 0x26, 2) := by
  decide +kernel

/-- F1: `TXA` -/
theorem test_txa :
    after { start [0x8A] with x := 0x7F, a := 0x80, p := 0xA4 } (fun t => (t.a, t.p, t.cpuCycles)) =
      some (0x7F, 0x24, 2) := by
  decide +kernel

/-- F1: `TYA` -/
theorem test_tya :
    after { start [0x98] with y := 0xFF } (fun t => (t.a, t.p, t.cpuCycles)) =
      some (0xFF, 0xA4, 2) := by
  decide +kernel

/-- F1: `TSX` -/
theorem test_tsx :
    after (start [0xBA]) (fun t => (t.x, t.p, t.cpuCycles)) =
      some (0xFD, 0xA4, 2) := by
  decide +kernel

/-- F1: `TXS` -/
theorem test_txs :
    after { start [0x9A] with x := 0x00 } (fun t => (t.sp, t.p, t.cpuCycles)) =
      some (0x00, 0x24, 2) := by
  decide +kernel

/-- F2: `AND #$0F` -/
theorem test_and_imm :
    after { start [0x29, 0x0F] with a := 0xF0 } (fun t => (t.a, t.p, t.cpuCycles)) =
      some (0x00, 0x26, 2) := by
  decide +kernel

/-- F2: `ORA #$80` -/
theorem test_ora_imm :
    after { start [0x09, 0x80] with a := 0x01 } (fun t => (t.a, t.p, t.cpuCycles)) =
      some (0x81, 0xA4, 2) := by
  decide +kernel

/-- F2: `EOR #$0F` -/
theorem test_eor_imm :
    after { start [0x49, 0x0F] with a := 0xF0, p := 0x65 } (fun t => (t.a, t.p, t.cpuCycles)) =
      some (0xFF, 0xE5, 2) := by
  decide +kernel

/-- F2: `CMP #$01` -/
theorem test_cmp_imm :
    after { start [0xC9, 0x01] with a := 0x80 } (fun t => (t.p, t.cpuCycles)) =
      some (0x25, 2) := by
  decide +kernel

/-- F2: `CMP #$02` -/
theorem test_cmp_imm_again :
    after { start [0xC9, 0x02] with a := 0x01, p := 0x65 } (fun t => (t.p, t.cpuCycles)) =
      some (0xE4, 2) := by
  decide +kernel

/-- F2: `CPX #$06` -/
theorem test_cpx_imm :
    after { start [0xE0, 0x06] with x := 0x05 } (fun t => (t.p, t.cpuCycles)) =
      some (0xA4, 2) := by
  decide +kernel

/-- F2: `CPY #$03` -/
theorem test_cpy_imm :
    after { start [0xC0, 0x03] with y := 0x07 } (fun t => (t.p, t.cpuCycles)) =
      some (0x25, 2) := by
  decide +kernel

/-- F2: `BIT $10` -/
theorem test_bit_zp0 :
    after { start [0x24, 0x10] with a := 0x01, p := 0x25, ram := poke [(0x10, 0xC0)] } (fun t => (t.p, t.cpuCycles)) =
      some (0xE7, 3) := by
  decide +kernel

/-- F2: `INC $10` -/
theorem test_inc_zp0 :
    after { start [0xE6, 0x10] with p := 0x25, ram := poke [(0x10, 0xFF)] }
        (fun t => (Memory.read t.ram 0x10, t.p, t.cpuCycles)) =
      some (0x00, 0x27, 5) := by
  decide +kernel

/-- F2: `INC $02FF,X` -/
theorem test_inc_abx :
    after { start [0xFE, 0xFF, 0x02] with x := 0x01, ram := poke [(0x300, 0x00)] }
        (fun t => (Memory.read t.ram 0x300, t.cpuCycles)) =
      some (0x01, 7) := by
  decide +kernel

/-- F2: `INC $0300` -/
theorem test_inc_abs :
    after { start [0xEE, 0x00, 0x03] with ram := poke [(0x300, 0x01)] } (fun t => (t.cpuCycles)) =
      some (6) := by
  decide +kernel

/-- F2: `DEC $10` -/
theorem test_dec_zp0 :
    after { start [0xC6, 0x10] with ram := poke [(0x10, 0x00)] }
        (fun t => (Memory.read t.ram 0x10, t.p, t.cpuCycles)) =
      some (0xFF, 0xA4, 5) := by
  decide +kernel

/-- F2: `INX` -/
theorem test_inx :
    after { start [0xE8] with x := 0xFF, p := 0x25 } (fun t => (t.x, t.p, t.cpuCycles)) =
      some (0x00, 0x27, 2) := by
  decide +kernel

/-- F2: `INY` -/
theorem test_iny :
    after { start [0xC8] with y := 0x7F } (fun t => (t.y, t.p, t.cpuCycles)) =
      some (0x80, 0xA4, 2) := by
  decide +kernel

/-- F2: `DEX` -/
theorem test_dex :
    after { start [0xCA] with x := 0x00 } (fun t => (t.x, t.p, t.cpuCycles)) =
      some (0xFF, 0xA4, 2) := by
  decide +kernel

/-- F2: `DEY` -/
theorem test_dey :
    after { start [0x88] with y := 0x01 } (fun t => (t.y, t.p, t.cpuCycles)) =
      some (0x00, 0x26, 2) := by
  decide +kernel

/-- F3: `ASL A` -/
theorem test_asl_acc :
    after { start [0x0A] with a := 0x81 } (fun t => (t.a, t.p, t.cpuCycles)) =
      some (0x02, 0x25, 2) := by
  decide +kernel

/-- F3: `ASL A` -/
theorem test_asl_acc_again :
    after { start [0x0A] with a := 0x40, p := 0x25 } (fun t => (t.a, t.p, t.cpuCycles)) =
      some (0x80, 0xA4, 2) := by
  decide +kernel

/-- F3: `ASL $10` -/
theorem test_asl_zp0 :
    after { start [0x06, 0x10] with a := 0xEE, ram := poke [(0x10, 0x55)] }
        (fun t => (Memory.read t.ram 0x10, t.a, t.p, t.cpuCycles)) =
      some (0xAA, 0xEE, 0xA4, 5) := by
  decide +kernel

/-- F3: `LSR A` -/
theorem test_lsr_acc :
    after { start [0x4A] with a := 0xFF, p := 0xA4 } (fun t => (t.a, t.p, t.cpuCycles)) =
      some (0x7F, 0x25, 2) := by
  decide +kernel

/-- F3: `LSR $10` -/
theorem test_lsr_zp0 :
    after { start [0x46, 0x10] with ram := poke [(0x10, 0x02)] }
        (fun t => (Memory.read t.ram 0x10, t.p, t.cpuCycles)) =
      some (0x01, 0x24, 5) := by
  decide +kernel

/-- F3: `ROL A` -/
theorem test_rol_acc :
    after { start [0x2A] with a := 0x40, p := 0x25 } (fun t => (t.a, t.p, t.cpuCycles)) =
      some (0x81, 0xA4, 2) := by
  decide +kernel

/-- F3: `ROL A` -/
theorem test_rol_acc_again :
    after { start [0x2A] with a := 0x80 } (fun t => (t.a, t.p, t.cpuCycles)) =
      some (0x00, 0x27, 2) := by
  decide +kernel

/-- F3: `ROL $10,X` -/
theorem test_rol_zpx :
    after { start [0x36, 0x10] with x := 0x01, ram := poke [(0x11, 0xFF)] }
        (fun t => (Memory.read t.ram 0x11, t.p, t.cpuCycles)) =
      some (0xFE, 0xA5, 6) := by
  decide +kernel

/-- F3: `ROR A` -/
theorem test_ror_acc :
    after { start [0x6A] with a := 0x03, p := 0x25 } (fun t => (t.a, t.p, t.cpuCycles)) =
      some (0x81, 0xA5, 2) := by
  decide +kernel

/-- F3: `ROR A` -/
theorem test_ror_acc_again :
    after { start [0x6A] with a := 0x00, p := 0x25 } (fun t => (t.a, t.p, t.cpuCycles)) =
      some (0x80, 0xA4, 2) := by
  decide +kernel

/-- F3: `ROR $02FF,X` -/
theorem test_ror_abx :
    after { start [0x7E, 0xFF, 0x02] with x := 0x01, p := 0x25, ram := poke [(0x300, 0x01)] }
        (fun t => (Memory.read t.ram 0x300, t.p, t.cpuCycles)) =
      some (0x80, 0xA5, 7) := by
  decide +kernel

/-- F5: `BCC +2` -/
theorem test_bcc :
    after { start [0x90, 0x02] with p := 0x24 } (fun t => (t.pc, t.cpuCycles)) =
      some (0x8004, 3) := by
  decide +kernel

/-- F5: `BCC +2` -/
theorem test_bcc_again :
    after { start [0x90, 0x02] with p := 0x25 } (fun t => (t.pc, t.cpuCycles)) =
      some (0x8002, 2) := by
  decide +kernel

/-- F5: `BCS +2` -/
theorem test_bcs :
    after { start [0xB0, 0x02] with p := 0x24 } (fun t => (t.pc, t.cpuCycles)) =
      some (0x8002, 2) := by
  decide +kernel

/-- F5: `BEQ -3` -/
theorem test_beq :
    after { startAt 0x8100 [0xF0, 0xFD] with p := 0x26 } (fun t => (t.pc, t.cpuCycles)) =
      some (0x80FF, 4) := by
  decide +kernel

/-- F5: `BNE +5` -/
theorem test_bne :
    after { startAt 0x80FE [0xD0, 0x05] with p := 0x24 } (fun t => (t.pc, t.cpuCycles)) =
      some (0x8105, 3) := by
  decide +kernel

/-- F5: `BNE +2` -/
theorem test_bne_again :
    after { startAt 0x80FD [0xD0, 0x02] with p := 0x24 } (fun t => (t.pc, t.cpuCycles)) =
      some (0x8101, 4) := by
  decide +kernel

/-- F5: `BMI +127` -/
theorem test_bmi :
    after { start [0x30, 0x7F] with p := 0xA4 } (fun t => (t.pc, t.cpuCycles)) =
      some (0x8081, 3) := by
  decide +kernel

/-- F5: `BPL -5` -/
theorem test_bpl :
    after { startAt 0x8008 [0x10, 0xFB] with p := 0x24 } (fun t => (t.pc, t.cpuCycles)) =
      some (0x8005, 3) := by
  decide +kernel

/-- F5: `BVC -128` -/
theorem test_bvc :
    after { start [0x50, 0x80] with p := 0x24 } (fun t => (t.pc, t.cpuCycles)) =
      some (0x7F82, 4) := by
  decide +kernel

/-- F5: `BVS +2` -/
theorem test_bvs :
    after { start [0x70, 0x02] with p := 0x24 } (fun t => (t.pc, t.cpuCycles)) =
      some (0x8002, 2) := by
  decide +kernel

/-- F5: `BVS +2` -/
theorem test_bvs_again :
    after { start [0x70, 0x02] with p := 0x64 } (fun t => (t.pc, t.cpuCycles)) =
      some (0x8004, 3) := by
  decide +kernel

/-- F5: `JMP $9000` -/
theorem test_jmp_abs :
    after (start [0x4C, 0x00, 0x90]) (fun t => (t.pc, t.cpuCycles)) =
      some (0x9000, 3) := by
  decide +kernel

/-- F5: `JMP ($0300)` -/
theorem test_jmp_ind :
    after { start [0x6C, 0x00, 0x03] with ram := poke [(0x300, 0x00), (0x301, 0x90)] }
        (fun t => (t.pc, t.cpuCycles)) =
      some (0x9000, 5) := by
  decide +kernel

/-- F5: `JSR $8010` -/
theorem test_jsr_abs :
    after { startAt 0x8003 [0x20, 0x10, 0x80] with sp := 0xFD }
        (fun t => (Memory.read t.ram 0x1FD, Memory.read t.ram 0x1FC, t.sp, t.pc, t.cpuCycles)) =
      some (0x80, 0x05, 0xFB, 0x8010, 6) := by
  decide +kernel

/-- F5: `RTS` -/
theorem test_rts :
    after { startAt 0x8010 [0x60] with sp := 0xFB, ram := poke [(0x1FC, 0x05), (0x1FD, 0x80)] }
        (fun t => (t.pc, t.sp, t.cpuCycles)) =
      some (0x8006, 0xFD, 6) := by
  decide +kernel

/-- F6: `PHA` -/
theorem test_pha :
    after { start [0x48] with a := 0x42 } (fun t => (Memory.read t.ram 0x1FD, t.sp, t.cpuCycles)) =
      some (0x42, 0xFC, 3) := by
  decide +kernel

/-- F6: `PLA` -/
theorem test_pla :
    after { start [0x68] with sp := 0xFC, a := 0x09, ram := poke [(0x1FD, 0x00)] }
        (fun t => (t.a, t.sp, t.p, t.cpuCycles)) =
      some (0x00, 0xFD, 0x26, 4) := by
  decide +kernel

/-- F6: `PHP` -/
theorem test_php :
    after { start [0x08] with p := 0x24 } (fun t => (Memory.read t.ram 0x1FD, t.sp, t.p, t.cpuCycles)) =
      some (0x34, 0xFC, 0x24, 3) := by
  decide +kernel

/-- F6: `PLP` -/
theorem test_plp :
    after { start [0x28] with sp := 0xFC, ram := poke [(0x1FD, 0xFF)] } (fun t => (t.p, t.sp, t.cpuCycles)) =
      some (0xEF, 0xFD, 4) := by
  decide +kernel

/-- F6: `PLP` -/
theorem test_plp_again :
    after { start [0x28] with sp := 0xFC, p := 0xEF, ram := poke [(0x1FD, 0x00)] } (fun t => (t.p, t.cpuCycles)) =
      some (0x20, 4) := by
  decide +kernel

/-- F6: `CLC` -/
theorem test_clc :
    after { start [0x18] with p := 0x25 } (fun t => (t.p, t.cpuCycles)) =
      some (0x24, 2) := by
  decide +kernel

/-- F6: `SEC` -/
theorem test_sec :
    after { start [0x38] with p := 0x24 } (fun t => (t.p, t.cpuCycles)) =
      some (0x25, 2) := by
  decide +kernel

/-- F6: `CLI` -/
theorem test_cli :
    after { start [0x58] with p := 0x24 } (fun t => (t.p, t.cpuCycles)) =
      some (0x20, 2) := by
  decide +kernel

/-- F6: `SEI` -/
theorem test_sei :
    after { start [0x78] with p := 0x20 } (fun t => (t.p, t.cpuCycles)) =
      some (0x24, 2) := by
  decide +kernel

/-- F6: `CLD` -/
theorem test_cld :
    after { start [0xD8] with p := 0x2C } (fun t => (t.p, t.cpuCycles)) =
      some (0x24, 2) := by
  decide +kernel

/-- F6: `SED` -/
theorem test_sed :
    after { start [0xF8] with p := 0x24 } (fun t => (t.p, t.cpuCycles)) =
      some (0x2C, 2) := by
  decide +kernel

/-- F6: `CLV` -/
theorem test_clv :
    after { start [0xB8] with p := 0x64 } (fun t => (t.p, t.cpuCycles)) =
      some (0x24, 2) := by
  decide +kernel

/-- F6: `NOP` -/
theorem test_nop :
    after (start [0xEA]) (fun t => (t.pc, t.cpuCycles)) =
      some (0x8001, 2) := by
  decide +kernel

/-- F6: `BRK` -/
theorem test_brk :
    after { start [0x00] with p := 0x24 }
        (fun t => ([Memory.read t.ram 0x1FD, Memory.read t.ram 0x1FC, Memory.read t.ram 0x1FB], t.sp, t.p, t.pc)) =
      some ([0x80, 0x02, 0x34], 0xFA, 0x24, 0x9000) := by
  decide +kernel

/-- F6: `RTI` -/
theorem test_rti :
    after { start [0x40] with sp := 0xFA, ram := poke [(0x1FB, 0xFF), (0x1FC, 0x34), (0x1FD, 0x12)] }
        (fun t => (t.p, t.pc, t.sp, t.cpuCycles)) =
      some (0xEF, 0x1234, 0xFD, 6) := by
  decide +kernel

/-- F2: `ADC #0xFF on A = 0xFF` -/
theorem test_adc_imm :
    after { start [0x69, 0xFF] with a := 0xFF, p := 0x25 } (fun t => (t.a, t.p, t.cpuCycles)) =
      some (0xFF, 0xA5, 2) := by
  decide +kernel

/-- F2: `ADC #0x01 on A = 0x7F` -/
theorem test_adc_imm_again :
    after { start [0x69, 0x01] with a := 0x7F, p := 0x24 } (fun t => (t.a, t.p, t.cpuCycles)) =
      some (0x80, 0xE4, 2) := by
  decide +kernel

/-- F2: `SBC #0x01 on A = 0x80` -/
theorem test_sbc_imm :
    after { start [0xE9, 0x01] with a := 0x80, p := 0x25 } (fun t => (t.a, t.p, t.cpuCycles)) =
      some (0x7F, 0x65, 2) := by
  decide +kernel

/-- F2: `SBC #0x01 on A = 0x10` -/
theorem test_sbc_imm_again :
    after { start [0xE9, 0x01] with a := 0x10, p := 0x24 } (fun t => (t.a, t.p, t.cpuCycles)) =
      some (0x0E, 0x25, 2) := by
  decide +kernel

/-! ### Undefined opcodes, interrupts and reset -/

/-- F6: undefined 02 under `fault`: no cycle, `PC` = 0x8001, and no further step. -/
theorem test_ill_fault :
    after (start [0x02, 0xEA]) (fun t => (t.fault, t.pc, t.cpuCycles, t.ppu.pixelX)) =
      some (some (.illegalOpcode 0x02 0x8000), 0x8001, 0, 0) := by
  decide +kernel

/-- F6: undefined 02 under `nop`: `PC` = 0x8001, 2 cycles. -/
theorem test_ill_nop :
    after { start [0x02, 0xEA] with params := { illegalOpcodePolicy := .nop } } (fun t => (t.fault, t.pc, t.cpuCycles)) =
      some (none, 0x8001, 2) := by
  decide +kernel

/-- X1: NMI entry with `P` = 0x21. -/
theorem test_nmi_entry :
    after { startAt 0x8005 [0xEA] with p := 0x21, nmiPending := true }
        (fun t => (Memory.read t.ram 0x1FD, Memory.read t.ram 0x1FC, Memory.read t.ram 0x1FB, t.sp, t.p, t.pc)) =
      some (0x80, 0x05, 0x21, 0xFA, 0x25, 0x8040) := by
  decide +kernel

/-- X1, R326: with stall cycles outstanding (5 here) and an NMI pending the step is the stall step. -/
theorem test_stall_first :
    after { start [0xEA] with stallCycles := 5, nmiPending := true }
        (fun t => (t.cpuCycles, t.stallCycles, t.nmiPending, t.pc)) =
      some (5, 0, true, 0x8000) := by
  decide +kernel

/-- S1: the reset of the test image. -/
theorem test_reset :
    let s := machineReset {} (testImage 0 [0xA9, 0x05])
    (s.pc, s.a, s.sp, s.p, s.stallCycles, s.cpuCycles) = (0x8000, 0x00, 0xFD, 0x24, 7, 0) := by
  decide +kernel

/-! ### Devices -/

/-- S3: one NMI request per vblank period. -/
theorem test_one_nmi :
    let s := writes [(0x2000, 0x80)] { start [] with ppu.vblank := true }
    let t := writes [(0x2000, 0x80), (0x2000, 0x00), (0x2000, 0x80)] { s with nmiPending := false }
    (s.nmiPending, s.ppu.nmiFired, t.nmiPending) = (true, true, false) := by
  decide +kernel

/-- S6: PPUSTATUS clears the toggle, and the next PPUADDR write is the high byte. -/
theorem test_status_toggle :
    let s := writes [(0x2006, 0x21)] { start [] with ppu.vblank := true, ppu.sprite0Hit := true }
    let t := writes [(0x2006, 0x3F), (0x2006, 0x00)] (busRead 0x2002 s).2
    (s.ppu.w, s.ppu.vramAddr, (busRead 0x2002 s).1, t.ppu.vramAddr, t.ppu.w) = (true, 0x2100, 0xC0, 0x3F00, false) := by
  decide +kernel

/-- S7: `Mirror` of 0x2C05 and 0x3EFF in the four modes, and two palette aliases. -/
theorem test_mirror :
    [Mirroring.horizontal, .vertical, .oneLo, .oneHi].map (fun m => (mirrorAddr m 0x2C05, mirrorAddr m 0x3EFF)) =
      [(0x2805, 0x2AFF), (0x2405, 0x26FF), (0x2005, 0x22FF), (0x2405, 0x26FF)] ∧
    (mirrorAddr .horizontal 0x3F1C, mirrorAddr .horizontal 0x3FFF) = (0x3F0C, 0x3F1F) := by
  decide +kernel

/-- S8: the buffered read of PPUDATA. -/
theorem test_data_buffer :
    let s := { start [] with ppu.vram := poke [(0x2000, 0xAA), (0x2001, 0xBB)], ppu.vramAddr := 0x2000 }
    readMany 0x2007 3 s = [0x00, 0xAA, 0xBB] := by
  decide +kernel

/-- S8: the increment by 32 wraps modulo 0x4000. -/
theorem test_vram_increment :
    (writes [(0x2007, 0x00)] { start [] with ppu.ctrl := 0x04, ppu.vramAddr := 0x3FF0 }).ppu.vramAddr = 0x0010 := by
  decide +kernel

/-- X3: ten reads of the first controller, nine of the second. -/
theorem test_controllers :
    let s := writes [(0x4016, 1), (0x4016, 0)] { start [] with pads.pad0.buttons := 0x89 }
    readMany 0x4016 10 s = [1, 0, 0, 1, 0, 0, 0, 1, 1, 1] ∧ readMany 0x4017 9 s = [0, 0, 0, 0, 0, 0, 0, 0, 1] := by
  decide +kernel

/-- R60: "bit 0 A, bit 1 B, bit 2 Select, bit 3 Start, bit 4 Up, bit 5 Down, bit 6 Left, bit 7 Right, 1 = pressed". -/
theorem test_button_order :
    [Button.a, .b, .select, .start, .up, .down, .left, .right].map Button.mask =
      [0x01, 0x02, 0x04, 0x08, 0x10, 0x20, 0x40, 0x80] ∧
    readMany 0x4017 8 (writes [(0x4016, 1), (0x4016, 0)] (setButton .port1 .start true (start []))) =
      [0, 0, 0, 1, 0, 0, 0, 0] := by
  decide +kernel

/-- X3: OAM DMA from page 3 with `oam_addr` = 0x10. -/
theorem test_oam_dma :
    let s := writes [(0x4014, 0x03)] { start [] with ppu.oamAddr := 0x10, ram := poke [(0x3F0, 0xF0), (0x3FF, 0xFF)] }
    (Memory.read s.ppu.oam 0x10, Memory.read s.ppu.oam 0x0F, Memory.read s.ppu.oam 0x00, s.ppu.oamAddr, s.stallCycles) =
      (0x00, 0xFF, 0xF0, 0x10, 513) := by
  decide +kernel

/-- M2, M3: the serial register of mapper 1, and the offsets after a write of 5 to the PRG register. -/
theorem test_mapper1 :
    let s := withMapper (.mmc1 (Mmc1.reset .horizontal [])) 8 4
    let t := writes [(0xE000, 1), (0xE000, 0), (0xE000, 1), (0xE000, 0)] s
    let u := writes [(0xE000, 0)] t
    (t.cart.mapper = .mmc1 { Mmc1.reset .horizontal [] with shift := 0x0A, count := 4 }) ∧
    (u.cart.mapper = .mmc1 { Mmc1.reset .horizontal [] with prg := 5 }) ∧
    (u.cart.prgIndex 0x8000, u.cart.prgIndex 0xC000) = (0x14000, 0x1C000) := by
  decide +kernel

/-- M5, M6: bank selects reduced by the number of banks. -/
theorem test_mappers_2_and_3 :
    (writes [(0x8000, 0x0B)] (withMapper (.unrom 0) 8 1)).cart.mapper = .unrom 3 ∧
    (writes [(0x8000, 0x07)] (withMapper (.cnrom 0) 1 4)).cart.mapper = .cnrom 3 := by
  decide +kernel

/-- The scene of X4, its parts that the two tests below reach. -/
def scene : State :=
  { start [] with
    cart.chr := poke ((List.range 8).flatMap (fun r => [(0x10 + r, 0xF0), (0x18 + r, 0xCC), (0x1020 + r, 0x80 >>> r)]))
    cart.headerMirroring := .v
    ppu.vram :=
      poke [(0x2000, 1), (0x2043, 1), (0x23C0, 0xE4), (0x3F00, 0x0F), (0x3F01, 0x01), (0x3F03, 0x03), (0x3F11, 0x11),
        (0x3F0F, 0x33), (0x3F15, 0x15)]
    ppu.oam :=
      poke ([(0, 15), (1, 2), (2, 0x01), (3, 24), (5, 2), (6, 0x60)] ++ (List.range 62).map (fun n => (4 * n + 8, 0xF0)))
    ppu.mask := 0x18
    ppu.ctrl := 0x08 }

/-- What `RenderPixel` leaves: the frame buffer entry and `sprite0_hit`. -/
def pixel (x y : Nat) (s : State) : Colour × Bool :=
  (Memory.read (renderPixel x y s).ppu.framebuffer (256 * y + x), (renderPixel x y s).ppu.sprite0Hit)

/-- X4: the background, the sprite-zero hit, the transparent diagonal, a sprite behind the background. -/
theorem test_scene :
    [pixel 0 0 scene, pixel 24 16 scene, pixel 25 16 scene, pixel 3 5 scene, pixel 7 1 scene] =
      [(0x03, false), (0x15, true), (0x33, false), (0x01, false), (0x11, false)] := by
  decide +kernel

/-- X4, the variant `SPRITE_Y_OFFSET` = 0: the sprite is one row higher. -/
theorem test_sprite_offset :
    [pixel 24 15 { scene with params.spriteYOffset := 0 }, pixel 24 16 { scene with params.spriteYOffset := 0 }].map Prod.fst =
      [0x15, 0x33] := by
  decide +kernel

/-! ### Witnesses: the hypotheses of the obligations can be met, clause by clause, at the bounds of their ranges -/

theorem test_witness_DecodeOfEncode :
    (Instr.ldaImm 0xFF).wellFormed = true ∧ (Instr.ill 0x02).wellFormed = true ∧ (Instr.ill 0xFF).wellFormed = true := by
  decide

theorem test_witness_DecodeIsTotal : 3 ≤ ([0xFF, 0x00, 0x00] : List Byte).length := by decide

/-- An operand form that is neither `A` nor an immediate byte. -/
theorem test_witness_DirectModes :
    Operand.izy 0xFF ≠ .acc ∧ (∀ b : Byte, Operand.izy 0xFF ≠ .imm b) ∧ Operand.imm 0x00 ≠ .acc := by
  exact ⟨by decide, fun _ h => (by cases h), by decide⟩

/-- The last clause, at the last page of RAM and with both forms of the second pointer byte. -/
theorem test_witness_PointerModes :
    (0x1F : Byte).toNat ≤ 0x1F ∧
    (locate (.ind 0xFF 0x1F) { start [] with ram := poke [(0x7FF, 0x34), (0x700, 0x12)] }).1.ea = 0x1234 ∧
    (locate (.ind 0xFE 0x1F) { start [] with ram := poke [(0x7FE, 0x34), (0x7FF, 0x12)] }).1.ea = 0x1234 := by
  decide +kernel

theorem test_witness_LoadRegisters :
    (Instr.ldaIzy 0xFF).mnemonic = .lda ∧ (Instr.ldxAby 0 0).mnemonic = .ldx ∧ (Instr.ldyImm 0).mnemonic = .ldy := by
  decide

theorem test_witness_StoreRegisters :
    (Instr.staAbx 0xFF 0xFF).mnemonic = .sta ∧ (Instr.stxZpy 0).mnemonic = .stx ∧ (Instr.styAbs 0 0).mnemonic = .sty ∧
    (Instr.styAbs 0 0).mnemonic ∈ [Mnemonic.sta, .stx, .sty] := by
  decide

theorem test_witness_AddWithCarry : (Instr.adcImm 0xFF).mnemonic = .adc ∧ (Instr.adcIzy 0xFF).mnemonic = .adc := by decide

theorem test_witness_SubtractWithCarry : (Instr.sbcImm 0xFF).mnemonic = .sbc ∧ (Instr.sbcAbx 0 0).mnemonic = .sbc := by
  decide

theorem test_witness_BitwiseLogic :
    ((Instr.andImm 0).mnemonic, fun u v : Byte => u &&& v) ∈
      [(Mnemonic.and, fun u v : Byte => u &&& v), (.ora, fun u v => u ||| v), (.eor, fun u v => u ^^^ v)] ∧
    ((Instr.oraImm 0).mnemonic, fun u v : Byte => u ||| v) ∈
      [(Mnemonic.and, fun u v : Byte => u &&& v), (.ora, fun u v => u ||| v), (.eor, fun u v => u ^^^ v)] ∧
    ((Instr.eorIzx 0).mnemonic, fun u v : Byte => u ^^^ v) ∈
      [(Mnemonic.and, fun u v : Byte => u &&& v), (.ora, fun u v => u ||| v), (.eor, fun u v => u ^^^ v)] := by
  simp [Instr.mnemonic]

theorem test_witness_CompareAndBit :
    let s := { start [] with a := 0xFF, x := 0x00, y := 0x80 }
    let regs := [(Mnemonic.cmp, s.a), (.cpx, s.x), (.cpy, s.y)]
    ((Instr.cmpImm 0xFF).mnemonic, (0xFF : Byte)) ∈ regs ∧ ((Instr.cpxImm 0x01).mnemonic, (0x00 : Byte)) ∈ regs ∧
    ((Instr.cpyZp0 0x00).mnemonic, (0x80 : Byte)) ∈ regs ∧ (Instr.bitAbs 0x00 0x03).mnemonic = .bit := by
  decide +kernel

theorem test_witness_IncDecMemory :
    ((Instr.incZp0 0).mnemonic, 1) ∈ [(Mnemonic.inc, 1), (.dec, 255)] ∧
    ((Instr.decAbx 0 0).mnemonic, 255) ∈ [(Mnemonic.inc, 1), (.dec, 255)] := by
  decide

/-- The four mnemonics, on `A` = 0x80 with Carry set and on a memory byte 0x01. -/
theorem test_witness_ShiftsAndRotates :
    let choices := fun v c : Nat =>
      [(Mnemonic.asl, 2 * v % 256, decide (128 ≤ v)), (.lsr, v / 2, decide (v % 2 = 1)),
       (.rol, (2 * v + c) % 256, decide (128 ≤ v)), (.ror, v / 2 + 128 * c, decide (v % 2 = 1))]
    (Instr.aslAcc.mnemonic, 0x00, true) ∈ choices 0x80 1 ∧ (Instr.lsrAcc.mnemonic, 0x40, false) ∈ choices 0x80 1 ∧
    ((Instr.rolZp0 0x10).mnemonic, 0x03, false) ∈ choices 0x01 1 ∧ ((Instr.rorAbx 0 3).mnemonic, 0x80, true) ∈ choices 0x01 1 := by
  decide

/-- A branch is in the list, and its flag can have either value. -/
theorem test_witness_Branches :
    (Instr.bcc 0x80, Flag.carry, false) ∈
      [(Instr.bcc 0x80, Flag.carry, false), (.bcs 0x80, .carry, true), (.beq 0x80, .zero, true), (.bne 0x80, .zero, false),
       (.bmi 0x80, .negative, true), (.bpl 0x80, .negative, false), (.bvc 0x80, .overflow, false), (.bvs 0x80, .overflow, true)] ∧
    ({ start [] with p := 0x24 }).flag .carry = false ∧ ({ start [] with p := 0x25 }).flag .carry = true := by
  decide +kernel

theorem test_witness_FlagInstructions :
    (Instr.clv, [(Flag.overflow, false)]) ∈
      [(Instr.clc, [(Flag.carry, false)]), (.sec, [(.carry, true)]), (.cli, [(.interruptDisable, false)]),
       (.sei, [(.interruptDisable, true)]), (.cld, [(.decimal, false)]), (.sed, [(.decimal, true)]),
       (.clv, [(.overflow, false)]), (.nop, [])] := by
  decide

theorem test_witness_ReturnsMatchEntries :
    Memory.wf 2048 (start []).ram = true ∧ (start []).StatusLegal ∧ ({ start [] with sp := 0x00, p := 0xEF }).StatusLegal := by
  decide +kernel

theorem test_witness_UndefinedOpcodeAction :
    (start []).params.illegalOpcodePolicy = .fault ∧
    ({ start [] with params := { illegalOpcodePolicy := .nop } }).params.illegalOpcodePolicy = .nop := by
  decide +kernel

theorem test_witness_ReadInstructionFrame :
    [Instr.ldaImm 0, .ldxImm 0, .ldyImm 0, .adcImm 0, .sbcImm 0, .andImm 0, .oraImm 0, .eorImm 0, .cmpImm 0, .cpxImm 0,
      .cpyImm 0, .bitAbs 0x02 0x20].all (fun i =>
        decide (i.mnemonic ∈ [Mnemonic.lda, .ldx, .ldy, .adc, .sbc, .and, .ora, .eor, .cmp, .cpx, .cpy, .bit])) = true := by
  decide

/-- Stores at the last RAM address, at a PPU register, at the DMA port, and at both ends of PRG-RAM on mapper 1. -/
theorem test_witness_StoreInstructionFrame :
    let s := withMapper (.mmc1 (Mmc1.reset .horizontal [])) 2 1
    s.MemoryLegal ∧ s.cart.Legal ∧ (Instr.rorZp0 0).mnemonic ∈ [Mnemonic.sta, .stx, .sty, .inc, .dec, .asl, .lsr, .rol, .ror] ∧
    (Instr.rorZp0 0).operand ≠ .acc ∧ (Instr.staAbs 0 0).operand ≠ .acc ∧
    [Instr.staAbs 0xFF 0x1F, .incAbs 0x00 0x20, .staAbs 0x14 0x40, .styAbs 0x00 0x60, .decAbs 0xFF 0x7F].map
      (fun i => (locate i.operand s).1.ea) = [0x1FFF, 0x2000, 0x4014, 0x6000, 0x7FFF] := by
  decide +kernel

theorem test_witness_StackStaysInPageOne :
    Memory.wf 2048 ({ start [] with sp := 0x00, ram := poke [(0x00, 0x01), (0x7FF, 0x02)] }).ram = true ∧
    Instr.jsrAbs 0 0 ∈ [Instr.pha, .php, .jsrAbs 0 0, .brk] ∧ Instr.rti ∈ [Instr.pla, .plp, .rts, .rti] := by
  decide +kernel

theorem test_witness_CycleBounds : (Instr.nop).mnemonic ≠ .ill ∧ (Instr.incAbx 0xFF 0xFF).mnemonic ≠ .ill := by decide

theorem test_witness_MirroredRegions :
    ((0x07FF : Addr).toNat ≤ 0x1FFF ∧ (0x1FFF : Addr).toNat ≤ 0x1FFF ∧
      (0x07FF : Addr).toNat % 0x800 = (0x1FFF : Addr).toNat % 0x800 ∧ Memory.wf 2048 (start []).ram = true) ∧
    (0x2000 ≤ (0x2007 : Addr).toNat ∧ (0x3FFF : Addr).toNat ≤ 0x3FFF ∧
      (0x2007 : Addr).toNat % 8 = (0x3FFF : Addr).toNat % 8) := by
  decide +kernel

/-- The bounds of the stub ranges, and unclaimed addresses on both sides of 0x6000. -/
theorem test_witness_StubsAndUnclaimed :
    ([0x4000, 0x4013, 0x4015, 0x4018, 0x401F] : List Addr).all (fun a =>
      decide ((0x4000 ≤ a.toNat ∧ a.toNat ≤ 0x4013) ∨ a.toNat = 0x4015 ∨ (0x4018 ≤ a.toNat ∧ a.toNat ≤ 0x401F))) = true ∧
    (start []).cart.cpuRead 0x4020 = none ∧ (start []).cart.cpuRead 0x7FFF = none ∧
    (start []).cart.cpuWrite 0x4020 0xFF = none ∧ (start []).cart.cpuWrite 0xFFFF 0xFF = none := by
  decide +kernel

/-- Reads that change the state: PPUSTATUS, PPUDATA at the last mirror, and the two controller ports. -/
theorem test_witness_OnlyFourReadsHaveEffects :
    let s := { start [] with ppu.w := true }
    (busRead 0x2002 s).2 ≠ s ∧ (busRead 0x3FFF s).2 ≠ s ∧ (busRead 0x4016 s).2 ≠ s ∧ (busRead 0x4017 s).2 ≠ s := by
  decide +kernel

/-- Addresses at the bounds of the regions, one for each clause. -/
theorem test_witness_WritesReachOneDevice :
    0x2000 ≤ (0x2000 : Addr).toNat ∧ ¬ (0x2000 ≤ (0x1FFF : Addr).toNat ∧ (0x1FFF : Addr).toNat ≤ 0x3FFF) ∧
    (0x4015 : Addr).toNat ≠ 0x4014 ∧ (0x4017 : Addr).toNat ≠ 0x4016 ∧ (0x5FFF : Addr).toNat < 0x6000 ∧
    (start []).cart.chrIsRam = false := by
  decide +kernel

/-- Strobe values that differ from 1 and 0 above bit 0, and the bits at the ends of a port. -/
theorem test_witness_ControllerProtocol :
    (0xFF : Byte).getLsbD 0 = true ∧ (0xFE : Byte).getLsbD 0 = false ∧ 0 < 8 ∧ 7 < 8 := by decide

/-- A DMA from the first and the last page of RAM, of PRG-ROM, and of PRG-RAM on mapper 1. -/
theorem test_witness_OamDma :
    let s := withMapper (.mmc1 (Mmc1.reset .horizontal [])) 2 1
    Memory.wf 256 s.ppu.oam = true ∧
    ([0x00, 0x1F, 0x60, 0x7F, 0x80, 0xFF] : List Byte).all (fun v => holdsCode s (word16 v 0x00)) = true := by
  decide +kernel

/-- Every PPU register at its first address and its last mirror. -/
theorem test_witness_PpuRegisters :
    (List.range 8).all (fun r =>
      let first : Addr := BitVec.ofNat 16 (0x2000 + r)
      let last : Addr := BitVec.ofNat 16 (0x3FF8 + r)
      decide (0x2000 ≤ first.toNat ∧ first.toNat ≤ 0x3FFF ∧ first.toNat % 8 = r) &&
      decide (0x2000 ≤ last.toNat ∧ last.toNat ≤ 0x3FFF ∧ last.toNat % 8 = r)) = true := by
  decide

/-- The two kinds of PPUDATA write: the last pattern address with CHR-RAM, the first nametable address, and CHR-ROM. -/
theorem test_witness_DataPort :
    let ram := { start [] with cart.chrIsRam := true, ppu.vramAddr := 0x1FFF }
    (ram.ppu.vramAddr.toNat ≤ 0x1FFF ∧ ram.cart.chrIsRam = true) ∧
    0x2000 ≤ ({ start [] with ppu.vramAddr := 0x2000 }).ppu.vramAddr.toNat ∧ (start []).cart.chrIsRam = false := by
  decide +kernel

theorem test_witness_NametableMirroring :
    0x2000 ≤ (0x2000 : PpuAddr).toNat ∧ (0x2000 : PpuAddr).toNat ≤ 0x3EFF ∧ (0x3EFF : PpuAddr).toNat ≤ 0x3EFF ∧
    (0x1FFF : PpuAddr).toNat ≤ 0x1FFF := by
  decide

theorem test_witness_PaletteAliases :
    0x3F00 ≤ (0x3F00 : PpuAddr).toNat ∧ 0x3F00 ≤ (0x3FFF : PpuAddr).toNat ∧
    Memory.wf 16384 (start []).ppu.vram = true ∧
    mirrorAddr (start []).cart.mirroring 0x3F10 = mirrorAddr (start []).cart.mirroring 0x3F20 := by
  decide +kernel

theorem test_witness_WhatMappersClaim :
    (0x5FFF : Addr).toNat < 0x6000 ∧ 0x6000 ≤ (0x6000 : Addr).toNat ∧ (0x7FFF : Addr).toNat < 0x8000 ∧
    0x8000 ≤ (0x8000 : Addr).toNat := by
  decide

/-- A cartridge of each mapper at the ends of its ranges, and the first and last address of each window. -/
theorem test_witness_MapperIndicesInBounds :
    [withMapper .nrom 1 1, withMapper (.mmc1 (Mmc1.reset .vertical [])) 255 255, withMapper (.unrom 254) 255 1,
      withMapper (.cnrom 254) 1 255].all (fun s => s.cart.inRange) = true ∧
    ((withMapper .nrom 1 1).cart.mapper = .nrom ∧ (withMapper (.unrom 254) 255 1).cart.mapper = .unrom 254 ∧
      (withMapper (.cnrom 254) 1 255).cart.mapper = .cnrom 254 ∧
      (withMapper (.mmc1 (Mmc1.reset .vertical [])) 2 1).cart.mapper = .mmc1 (Mmc1.reset .vertical [])) ∧
    (0x6000 ≤ (0x6000 : Addr).toNat ∧ (0x7FFF : Addr).toNat ≤ 0x7FFF) ∧
    (0x8000 ≤ (0x8000 : Addr).toNat ∧ (0xBFFF : Addr).toNat ≤ 0xBFFF) ∧ 0xC000 ≤ (0xC000 : Addr).toNat ∧
    (0x0FFF : PpuAddr).toNat ≤ 0x0FFF ∧ 0x1000 ≤ (0x1000 : PpuAddr).toNat ∧ (0x1FFF : PpuAddr).toNat ≤ 0x1FFF := by
  decide +kernel

/-- A reset write and five bits at the bounds of the four registers' address ranges. -/
theorem test_witness_SerialRegisterOfMapper1 :
    (withMapper (.mmc1 (Mmc1.reset .horizontal [])) 2 1).cart.mapper = .mmc1 (Mmc1.reset .horizontal []) ∧
    (Mmc1.reset .horizontal []).count = 0 ∧ (0x80 : Byte).getLsbD 7 = true ∧ (0x7F : Byte).getLsbD 7 = false ∧
    ([0x8000, 0x9FFF, 0xA000, 0xBFFF, 0xC000, 0xDFFF, 0xE000, 0xFFFF] : List Addr).all
      (fun a => decide (0x8000 ≤ a.toNat)) = true := by
  decide +kernel

theorem test_witness_BankSwitching :
    (withMapper .nrom 1 1).cart.mapper = .nrom ∧ (withMapper (.unrom 7) 8 1).cart.mapper = .unrom 7 ∧
    (withMapper (.cnrom 3) 1 4).cart.mapper = .cnrom 3 ∧ 0x8000 ≤ (0x8000 : Addr).toNat ∧ (0xBFFF : Addr).toNat ≤ 0xBFFF ∧
    0xC000 ≤ (0xC000 : Addr).toNat ∧ (0x1FFF : PpuAddr).toNat ≤ 0x1FFF ∧
    ((withMapper (.mmc1 (Mmc1.reset .vertical [])) 2 1).cart.mapper = .mmc1 (Mmc1.reset .vertical []) ∧
      Memory.wf 8192 (Mmc1.reset .vertical []).prgRam = true ∧ 0x6000 ≤ (0x6000 : Addr).toNat ∧
      (0x7FFF : Addr).toNat ≤ 0x7FFF) := by
  decide +kernel

/-- An image with a declared number of CHR banks and the given bytes after its header. -/
def image (chrBanks : Byte) (rest : List Byte) : List Byte :=
  0x4E :: 0x45 :: 0x53 :: 0x1A :: 0x01 :: chrBanks :: 0x00 :: 0x00 :: 0 :: 0 :: 0 :: 0 :: 0 :: 0 :: 0 :: 0 :: rest

/-- An image with enough bytes loads. -/
theorem image_loads (chrBanks : Byte) (rest : List Byte) (h : 16384 + 8192 * chrBanks.toNat ≤ rest.length) :
    ∃ c, loadImage {} (image chrBanks rest) = .ok c := by
  have magic : (image chrBanks rest).take 4 = [0x4E, 0x45, 0x53, 0x1A] := rfl
  have noTrainer : ((image chrBanks rest).getD 6 0).getLsbD 2 = false := by
    show (0x00 : Byte).getLsbD 2 = false
    decide
  have number : (((image chrBanks rest).getD 7 0 &&& (0xF0 : Byte)) ||| ((image chrBanks rest).getD 6 0 >>> 4)).toNat = 0 := by
    show ((0x00 : Byte) &&& (0xF0 : Byte) ||| ((0x00 : Byte) >>> 4)).toNat = 0
    decide
  have prg : ((image chrBanks rest).getD 4 0).toNat = 1 := rfl
  have chr : (image chrBanks rest).getD 5 0 = chrBanks := rfl
  have length : (image chrBanks rest).length = rest.length + 16 := rfl
  unfold loadImage
  dsimp only
  rw [if_neg (not_not.mpr magic), if_neg (c := ((image chrBanks rest).getD 6 0).getLsbD 2 = true) (by rw [noTrainer]; decide),
    number, prg, chr, length]
  have fits : ¬ rest.length + 16 < 16 + 16384 * 1 + 8192 * chrBanks.toNat := by omega
  simp only [Mapper.ofNumber, if_neg fits, Nat.one_ne_zero, if_false, Except.ok.injEq, exists_eq']

/-- Images that load: one bank of CHR-ROM, and none (CHR-RAM). -/
theorem test_witness_ImageLoading :
    (∃ c, loadImage {} (image 0x01 (List.replicate 24576 0x00)) = .ok c) ∧
    (∃ c, loadImage {} (image 0x00 (List.replicate 16384 0x00)) = .ok c) :=
  ⟨image_loads _ _ (by rw [List.length_replicate]; decide), image_loads _ _ (by rw [List.length_replicate]; decide)⟩

theorem test_witness_LoadedMachineIsLegal : ParamsLegal {} ∧ ∃ s, loadRom {} (image 0x01 (List.replicate 24576 0x00)) = .ok s := by
  obtain ⟨c, h⟩ := test_witness_ImageLoading.1
  exact ⟨by decide, machineReset {} c, by simp only [loadRom, h]⟩

theorem test_witness_RenderPixelEffect :
    255 ≤ 255 ∧ 239 ≤ 239 ∧ Memory.wf 61440 scene.ppu.framebuffer = true ∧
    ((spriteAt scene 24 16 0).isSome = true ∧ (backgroundPixel scene 24 16).1 ≠ 0) := by
  decide +kernel

/-- The positions of the two events, of the last and the first invisible pixel, and of the end of a line and a frame. -/
theorem test_witness_ClockTick :
    ([(1, 241), (1, 261), (255, 239), (256, 239), (0, 240), (340, 0), (340, 261)] : List (Nat × Nat)).all (fun p =>
      decide ({ start [] with ppu := { (start []).ppu with pixelX := p.1, pixelY := p.2 } }).PositionLegal) = true := by
  decide +kernel

theorem test_witness_FrameTiming :
    State.reset.ppu.pixelX = 0 ∧ State.reset.ppu.pixelY = 0 ∧ 82182 ≤ 82182 ∧ (82182 < 82183 ∧ 89002 ≤ 89002) ∧
    (89002 < 89003 ∧ 89342 ≤ 89342) ∧ 89341 < 89342 := by
  decide

theorem test_witness_OneNmiPerVblank :
    let s := { start [] with ppu.nmiFired := true, ppu.pixelX := 1, ppu.pixelY := 241 }
    s.ppu.nmiFired = true ∧ ¬ (s.ppu.pixelY = 261 ∧ s.ppu.pixelX = 1) := by
  decide +kernel

theorem test_witness_StepRunsTheInstruction :
    (start [0xAD, 0x34, 0x02]).Ready ∧ (Instr.ldaAbs 0x34 0x02).wellFormed = true ∧
    (readCode (Instr.ldaAbs 0x34 0x02).length (start [0xAD, 0x34, 0x02])).1 = encode (.ldaAbs 0x34 0x02) := by
  decide +kernel

/-- Three bytes at 0x8000, and three that wrap from 0xFFFF into RAM. -/
theorem test_witness_FetchFromMemory :
    [start [], { start [] with pc := 0xFFFF }].all (fun s =>
      (List.range 3).all (fun k => holdsCode s (s.pc + BitVec.ofNat 16 k))) = true := by
  decide +kernel

theorem test_witness_StallThenNmi :
    (State.reset.fault = none ∧ State.reset.cart.inRange = true ∧ State.reset.stallCycles ≠ 0) ∧
    (({ start [] with nmiPending := true }).stallCycles = 0 ∧ ({ start [] with nmiPending := true }).nmiPending = true) := by
  decide +kernel

/-- A faulted state, a cartridge that no load yields, and an undefined opcode about to be fetched. -/
theorem test_witness_OnlyUndefinedOpcodesStop :
    ({ start [] with fault := some (.illegalOpcode 0x02 0x8000) }).fault = some (.illegalOpcode 0x02 0x8000) ∧
    (withMapper .nrom 0 1).cart.inRange = false ∧ (start [0x02]).cart.inRange = true ∧
    isUndefinedOpcode (busRead (start [0x02]).pc (start [0x02])).1 = true := by
  decide +kernel

theorem test_witness_ThreeClocksPerCycle : State.reset.PositionLegal ∧ after State.reset (fun t => t.cpuCycles) = some 7 := by
  decide +kernel

theorem test_witness_StepKeepsInvariant :
    State.reset.Inv ∧ (start [0xA9, 0x80]).Inv ∧ after (start [0xA9, 0x80]) (fun t => t.a) = some 0x80 := by
  decide +kernel

end Sys2Proof.Tests
end

section
/-! PROOFS of the family 20_memory.md: the CPU addresses with nothing behind them (R58, R59, R62, R63), and the palette
mirrors of the PPU address space (R68). -/

namespace Sys2Proof.Machine

/-! ### Addresses with nothing behind them -/

/-- From 0x4000 up, an unclaimed read answers 0 and changes nothing, but at the two controller ports. -/
theorem busRead_of_unclaimed {a : Addr} {s : State} (hclaim : s.cart.cpuRead a = none) (hlow : 0x4000 ≤ a.toNat)
    (hport0 : a.toNat ≠ 0x4016) (hport1 : a.toNat ≠ 0x4017) : busRead a s = (0x00, s) := by
  simp [busRead, hclaim, hport0, hport1, show ¬ a.toNat ≤ 0x1FFF by omega, show ¬ a.toNat ≤ 0x3FFF by omega]

/-- From 0x4000 up, an unclaimed write changes nothing, but at OAMDMA and at the controllers' strobe. -/
theorem busWrite_of_unclaimed {a : Addr} {v : Byte} {s : State} (hclaim : s.cart.cpuWrite a v = none)
    (hlow : 0x4000 ≤ a.toNat) (hdma : a.toNat ≠ 0x4014) (hstrobe : a.toNat ≠ 0x4016) : busWrite a v s = s := by
  simp [busWrite, hclaim, hdma, hstrobe, show ¬ a.toNat ≤ 0x1FFF by omega, show ¬ a.toNat ≤ 0x3FFF by omega]

/-! ### Palette addresses -/

/-- The aliases of the palette named one by one, as R68 lists them. -/
theorem paletteIndex_eq_ite : ∀ i < 32, paletteIndex i = if i ∈ [0x10, 0x14, 0x18, 0x1C] then i - 0x10 else i := by
  decide

theorem paletteIndex_lt : ∀ i < 32, paletteIndex i < 32 := by
  decide

/-- Every address from 0x3F00 up reaches a palette cell, whatever the mirroring. -/
theorem mirrorAddr_palette_toNat (m : Mirroring) {a : PpuAddr} (ha : 0x3F00 ≤ a.toNat) :
    (mirrorAddr m a).toNat = 0x3F00 + paletteIndex (a.toNat % 32) := by
  have hcell := paletteIndex_lt (a.toNat % 32) (Nat.mod_lt _ (by omega))
  simp only [mirrorAddr, show ¬ a.toNat ≤ 0x1FFF by omega, show ¬ a.toNat ≤ 0x3EFF by omega, if_false,
    BitVec.toNat_ofNat]
  omega

/-- The pattern tables are their own mirror. -/
theorem mirrorAddr_pattern (m : Mirroring) {a : PpuAddr} (ha : a.toNat ≤ 0x1FFF) : mirrorAddr m a = a := by
  simp [mirrorAddr, ha]

/-- Only addresses above the pattern tables share a cell with a palette address. -/
theorem above_pattern_of_mirrorAddr_eq_palette {m : Mirroring} {a b : PpuAddr} (ha : 0x3F00 ≤ a.toNat)
    (h : mirrorAddr m a = mirrorAddr m b) : 0x1FFF < b.toNat := by
  by_contra hb
  have hcell := mirrorAddr_palette_toNat m ha
  rw [h, mirrorAddr_pattern m (by omega)] at hcell
  omega

/-- Two palette addresses share a cell exactly when they reach the same palette index. -/
theorem mirrorAddr_palette_eq_iff (m : Mirroring) {a b : PpuAddr} (ha : 0x3F00 ≤ a.toNat) (hb : 0x3F00 ≤ b.toNat) :
    mirrorAddr m a = mirrorAddr m b ↔ paletteIndex (a.toNat % 32) = paletteIndex (b.toNat % 32) := by
  rw [← BitVec.toNat_inj, mirrorAddr_palette_toNat m ha, mirrorAddr_palette_toNat m hb, Nat.add_left_cancel_iff]

/-- The cartridge claims no PPU read above the pattern tables, so it comes from `vram` (R65). -/
theorem ppuRead_of_above_pattern (s : State) {a : PpuAddr} (ha : 0x1FFF < a.toNat) :
    ppuRead s a = Memory.read s.ppu.vram (mirrorAddr s.cart.mirroring a).toNat := by
  simp [ppuRead, Cartridge.ppuRead, show ¬ a.toNat ≤ 0x1FFF by omega]

/-- The cartridge claims no PPU write above the pattern tables, so it goes to `vram` (R66). -/
theorem ppuWrite_of_above_pattern (v : Byte) (s : State) {a : PpuAddr} (ha : 0x1FFF < a.toNat) :
    ppuWrite a v s =
      { s with ppu.vram := Memory.write s.ppu.vram (mirrorAddr s.cart.mirroring a).toNat v } := by
  simp [ppuWrite, Cartridge.ppuWrite, show ¬ a.toNat ≤ 0x1FFF by omega]

/-- Above the pattern tables, a byte written is read back through every address that shares its cell. -/
theorem ppuRead_ppuWrite_alias {a b : PpuAddr} (v : Byte) {s : State} (hwf : Memory.wf 16384 s.ppu.vram = true)
    (ha : 0x1FFF < a.toNat) (hb : 0x1FFF < b.toNat)
    (halias : mirrorAddr s.cart.mirroring a = mirrorAddr s.cart.mirroring b) : ppuRead (ppuWrite a v s) b = v := by
  rw [ppuWrite_of_above_pattern v s ha, ppuRead_of_above_pattern _ hb, halias]
  exact Memory.read_write_same hwf

/-! ### The obligations -/

/-- Settles O41: a palette index is the cell R68 names, and a palette address aliases nothing in the pattern tables, so
both the write and the read reach `vram`. -/
theorem paletteAliases : Obligations.PaletteAliases := by
  refine ⟨fun a b m ha hb => ?_, fun a b v s hwf ha halias => ?_⟩
  · rw [mirrorAddr_palette_eq_iff m ha hb, paletteIndex_eq_ite _ (Nat.mod_lt _ (by omega)),
      paletteIndex_eq_ite _ (Nat.mod_lt _ (by omega))]
  · exact ppuRead_ppuWrite_alias v hwf (by omega) (above_pattern_of_mirrorAddr_eq_palette ha halias) halias

/-- Settles O30: no mapper claims an address below 0x6000, and behind the rest of the named addresses lies nothing. -/
theorem stubsAndUnclaimed : Obligations.StubsAndUnclaimed := by
  refine fun a v s => ⟨fun hstub => ⟨?_, ?_⟩, fun ha hclaim => ?_, fun ha hclaim => ?_, ?_⟩
  · exact busRead_of_unclaimed (s.cart.cpuRead_low (by omega)) (by omega) (by omega) (by omega)
  · exact busWrite_of_unclaimed (s.cart.cpuWrite_low v (by omega)) (by omega) (by omega) (by omega)
  · exact busRead_of_unclaimed hclaim (by omega) (by omega) (by omega)
  · exact busWrite_of_unclaimed hclaim (by omega) (by omega) (by omega)
  · exact busRead_of_unclaimed (s.cart.cpuRead_low (by decide)) (by decide) (by decide) (by decide)

end Sys2Proof.Machine
end

section
/-! PROOFS of the family 30_encoding.md: the undefined opcodes (R94), read off the opcode map (R93). -/

namespace Sys2Proof

/-! ### The entries of the opcode map -/

/-- What the bytes after the opcode change in no entry of the map, they do not change in the entry that is decoded. -/
theorem instrOf_congr {α : Type} (f : Instr → α) {b1 b2 c1 c2 : Byte} (op : Byte)
    (hmap : (opcodeMap b1 b2).map (List.map f) = (opcodeMap c1 c2).map (List.map f)) :
    f (instrOf op b1 b2) = f (instrOf op c1 c2) := by
  have lookup (d1 d2 : Byte) : f (instrOf op d1 d2) =
      (((opcodeMap d1 d2).map (List.map f)).getD (op.toNat / 16) []).getD (op.toNat % 16) (f (.ill op)) := by
    rw [← List.map_nil (f := f), List.getD_map, List.getD_map]
    rfl
  rw [lookup, lookup, hmap]

/-- The opcode alone fixes the mnemonic. -/
theorem instrOf_mnemonic (op b1 b2 : Byte) : (instrOf op b1 b2).mnemonic = (instrOf op 0 0).mnemonic :=
  instrOf_congr Instr.mnemonic op rfl

/-- The map holds each opcode at its own index. -/
@[simp] theorem instrOf_opcode (op b1 b2 : Byte) : (instrOf op b1 b2).opcode = op := by
  have hzero : ∀ op : Byte, (instrOf op 0 0).opcode = op := by decide +kernel
  calc (instrOf op b1 b2).opcode = (instrOf op 0 0).opcode := instrOf_congr Instr.opcode op rfl
    _ = op := hzero op

/-! ### Undefined opcodes -/

/-- Only the constructor `ill` has the mnemonic `ill`, and its field is its opcode. -/
theorem Instr.mnemonic_eq_ill_iff (i : Instr) : i.mnemonic = .ill ↔ i = .ill i.opcode := by
  cases i <;> simp [Instr.mnemonic, Instr.opcode]

theorem instrOf_eq_ill_iff_mnemonic (op b1 b2 : Byte) :
    instrOf op b1 b2 = .ill op ↔ (instrOf op b1 b2).mnemonic = .ill := by
  rw [Instr.mnemonic_eq_ill_iff, instrOf_opcode]

/-- The map has `ill` exactly where R94 lists the opcode. -/
theorem instrOf_mnemonic_eq_ill_iff (op b1 b2 : Byte) :
    (instrOf op b1 b2).mnemonic = .ill ↔ isUndefinedOpcode op = true := by
  have hzero : ∀ op : Byte, (instrOf op 0 0).mnemonic = .ill ↔ isUndefinedOpcode op = true := by decide +kernel
  rw [instrOf_mnemonic, hzero]

theorem instrOf_eq_ill_iff (op b1 b2 : Byte) : instrOf op b1 b2 = .ill op ↔ isUndefinedOpcode op = true :=
  (instrOf_eq_ill_iff_mnemonic op b1 b2).trans (instrOf_mnemonic_eq_ill_iff op b1 b2)

/-- `isUndefinedOpcode` compares numbers; the lists of R94 hold bytes. -/
theorem isUndefinedOpcode_iff (op : Byte) :
    isUndefinedOpcode op = true ↔
      op.toNat % 16 ∈ [0x3, 0x7, 0xB, 0xF] ∨
      op ∈ ([0x02, 0x12, 0x22, 0x32, 0x42, 0x52, 0x62, 0x72, 0x92, 0xB2, 0xD2, 0xF2, 0x82, 0xC2, 0xE2] : List Byte) ∨
      op ∈ ([0x04, 0x0C, 0x14, 0x1C, 0x34, 0x3C, 0x44, 0x54, 0x5C, 0x64, 0x74, 0x7C, 0x80, 0xD4, 0xDC, 0xF4,
        0xFC] : List Byte) ∨
      op ∈ ([0x1A, 0x3A, 0x5A, 0x7A, 0xDA, 0xFA] : List Byte) ∨
      op ∈ ([0x89, 0x9C, 0x9E] : List Byte) := by
  simp [isUndefinedOpcode, ← BitVec.toNat_inj, or_assoc]

/-! ### The obligation -/

/-- Settles O4: the map's `ill` entries are the undefined opcodes, which are counted over the 256 bytes. -/
theorem undefinedOpcodes : Obligations.UndefinedOpcodes := by
  refine ⟨fun op b1 b2 => ⟨?_, ?_⟩, ?_⟩
  · exact (instrOf_eq_ill_iff op b1 b2).trans (isUndefinedOpcode_iff op)
  · exact (instrOf_eq_ill_iff_mnemonic op b1 b2).symm
  · decide +kernel

end Sys2Proof
end

section
/-! PROOFS of the family 41_load_store_transfer.md: the loads (R130 to R132), the stores (R133 to R135) and the register
transfers (R136 to R141). -/

namespace Sys2Proof.Machine

/-! ### The rows of the opcode map -/

/-- The opcode picks an instruction's row out of a list of rows that speaks of the instruction's own operand bytes. -/
theorem encodedAs_of_find {i : Instr} {rows : Byte → Byte → List (Byte × Operand × Nat × Bool)}
    (h : (rows (i.operand.bytes.getD 0 0) (i.operand.bytes.getD 1 0)).find? (fun row => row.1 == i.opcode) =
      some (i.opcode, i.operand, i.baseCycles, i.pgx)) : EncodedAs i rows :=
  ⟨_, _, List.mem_of_find?_eq_some h⟩

/-! ### Modes, cycles and flags -/

/-- Only `JMP` has the mode IND, the one whose pointer reads can change the state. -/
theorem mnemonic_of_operand_ind {i : Instr} {b1 b2 : Byte} (h : i.operand = .ind b1 b2) : i.mnemonic = .jmp := by
  cases i <;> cases h
  rfl

/-- The mode of every instruction but `JMP` leaves the state as it is. -/
theorem locate_operand_state {i : Instr} (h : i.mnemonic ≠ .jmp) (s : State) : (locate i.operand s).2 = s :=
  locate_state (fun _ _ hind => h (mnemonic_of_operand_ind hind)) s

theorem pageBonus_eq_ite (pgx crossed : Bool) :
    pageBonus pgx crossed = if pgx = true ∧ crossed = true then 1 else 0 := by
  simp [pageBonus]

/-- The flags of a state whose `P` is the one that `SetZN(v)` leaves. -/
theorem flagsAfter_of_p_eq_setZN {s t : State} {v : Byte} (hp : t.p = (s.setZN v).p) :
    FlagsAfter s t [(.zero, decide (v = 0)), (.negative, v.getLsbD 7)] := by
  intro f
  rw [State.flag_congr f hp, State.flag_setZN]
  cases f <;> rfl

/-- `SetZN` after an operand's reads, which leave `P` alone. -/
theorem setZN_p_after_operand (o : Operand) (v : Byte) (s : State) :
    ((operandByte o (locate o s).1.ea (locate o s).2).2.setZN v).p = (s.setZN v).p := by
  rw [State.setZN_p, State.setZN_p, (operand_reads o s).p]

/-! ### What `exec` answers -/

/-- An instruction that only reads its operand: its effect on the operand and the state after the reads, its base cycles,
and one more when its row is marked and its mode crossed a page. -/
theorem exec_read_eq {i : Instr} {effect : Byte → State → State} (h : readEffect i.mnemonic = some effect)
    (hcycles : ∀ v t, (effect v t).cpuCycles = t.cpuCycles) (s : State) :
    let l := locate i.operand s
    let m := operandByte i.operand l.1.ea l.2
    exec i s = .next
      { effect m.1 m.2 with
        cpuCycles := s.cpuCycles + i.baseCycles + (if i.pgx = true ∧ l.1.crossed = true then 1 else 0) } := by
  rw [exec_read h, readInstr]
  simp only [charge, hcycles, (operand_reads i.operand s).cpuCycles, pageBonus_eq_ite, Nat.add_assoc]

/-- A store whose mode leaves the state as it is: one bus write of the register, and the base cycles. -/
theorem exec_store_eq {i : Instr} {source : State → Byte} {s : State} (h : storeSource i.mnemonic = some source)
    (hmode : (locate i.operand s).2 = s) :
    let l := locate i.operand s
    exec i s = .next { busWrite l.1.ea (source s) l.2 with cpuCycles := s.cpuCycles + i.baseCycles } := by
  rw [exec_store h, storeInstr]
  simp only [charge, hmode, busWrite_cpuCycles]

/-! ### The obligations -/

/-- Settles O7: a load is a read instruction whose effect sets its register and takes `P` from `SetZN`. -/
theorem loadRegisters : Obligations.LoadRegisters := by
  refine ⟨fun i => ⟨?ldaRows, ?ldxRows, ?ldyRows⟩, fun i s => ⟨?lda, ?ldx, ?ldy⟩⟩
  case ldaRows | ldxRows | ldyRows =>
    intro h
    apply encodedAs_of_find
    cases i <;> cases h <;> rfl
  case lda | ldx | ldy =>
    intro h
    exact ⟨_, exec_read_eq (congrArg readEffect h) (fun _ _ => rfl) s,
      flagsAfter_of_p_eq_setZN (setZN_p_after_operand i.operand _ s), rfl⟩

/-- Settles O8: the mode of a store leaves the state as it is, so the one bus write is all that is left. -/
theorem storeRegisters : Obligations.StoreRegisters := by
  refine ⟨fun i => ⟨?staRows, ?stxRows, ?styRows⟩, fun i s => ?_⟩
  case staRows | stxRows | styRows =>
    intro h
    apply encodedAs_of_find
    cases i <;> cases h <;> rfl
  have hmode (h : i.mnemonic ∈ [Mnemonic.sta, .stx, .sty]) : (locate i.operand s).2 = s :=
    locate_operand_state (fun hjmp => by simp [hjmp] at h) s
  refine ⟨?sta, ?stx, ?sty, fun h => ⟨hmode h, ?frame⟩⟩
  case sta | stx | sty =>
    intro h
    exact exec_store_eq (congrArg storeSource h) (hmode (by simp [h]))
  case frame => rw [busWrite_p, hmode h]

/-- Settles O9: five transfers end in `SetZN` of the byte they copy; `TXS` does not. -/
theorem transfers : Obligations.Transfers := by
  refine ⟨by decide, fun s => ⟨?tax, ?tay, ?txa, ?tya, ?tsx, ?txs⟩⟩
  case tax | tay | txa | tya | tsx => exact ⟨_, rfl, rfl, flagsAfter_of_p_eq_setZN rfl⟩
  case txs => rfl

end Sys2Proof.Machine
end

section
/-! PROOFS of the family 42_arithmetic_logic.md: addition and subtraction (R150, R151), the bitwise operations (R152 to
R154), comparisons and `BIT` (R155 to R158), and the steps by one (R159 to R164). -/

namespace Sys2Proof.Machine

/-! ### Bytes in the spec's arithmetic -/

/-- The overflow bit says that the sum of the signed values leaves the signed range (R150). -/
theorem sumOverflow_eq (a m : Byte) (c : Bool) :
    sumOverflow a m c =
      decide (a.toInt + m.toInt + (c.toNat : Int) < -128 ∨ 127 < a.toInt + m.toInt + (c.toNat : Int)) := by
  have hsigns : sumOverflow a m c = true ↔
      a.getLsbD 7 = m.getLsbD 7 ∧ a.getLsbD 7 ≠ (sumByte a m c).getLsbD 7 := by
    rw [sumOverflow, decide_eq_true_iff, and_sign_ne_zero]
    simp
  have := a.isLt
  have := m.isLt
  have := c.toNat_le
  rw [Bool.eq_iff_iff, hsigns, decide_eq_true_iff, byte_toInt, byte_toInt]
  simp only [sign_bit, sumByte_toNat, ne_eq, decide_eq_decide]
  split_ifs <;> omega

/-- Inverting a byte subtracts it from 255. -/
theorem inverted_toNat (m : Byte) : (m ^^^ 0xFF).toNat = 255 - m.toNat := by
  rw [show m ^^^ 0xFF = ~~~m from BitVec.xor_allOnes, BitVec.toNat_not]

/-- As a signed number, an inverted byte is the negation minus one. -/
theorem inverted_toInt (m : Byte) : (m ^^^ 0xFF).toInt = -m.toInt - 1 := by
  have := m.isLt
  rw [byte_toInt, byte_toInt, inverted_toNat]
  split_ifs <;> omega

/-- Adding modulo 256, counted in naturals. -/
theorem byte_add_ofNat (v : Byte) (n : Nat) : v + BitVec.ofNat 8 n = BitVec.ofNat 8 (v.toNat + n) := by
  rw [BitVec.ofNat_add, BitVec.ofNat_toNat, BitVec.setWidth_eq]

/-- Subtracting one modulo 256 is adding 255. -/
theorem byte_sub_one (v : Byte) : v - 1 = BitVec.ofNat 8 (v.toNat + 255) := by
  rw [← byte_add_ofNat, BitVec.sub_eq_add_neg]
  rfl

/-- Bit 7 of a difference modulo 256. -/
theorem sub_sign_bit (u v : Byte) : (u - v).getLsbD 7 = decide (128 ≤ (256 + u.toNat - v.toNat) % 256) := by
  have := v.isLt
  rw [sign_bit, BitVec.toNat_sub, Nat.sub_add_comm (by omega)]

/-! ### Flags -/

/-- The flags of R150 for the addition of `m` and the carry `c` to `a`. -/
def additionFlags (a m : Byte) (c : Bool) : List (Flag × Bool) :=
  let sum := a.toNat + m.toNat + c.toNat
  let signed := a.toInt + m.toInt + (c.toNat : Int)
  [(.carry, decide (255 < sum)), (.overflow, decide (signed < -128 ∨ 127 < signed)),
   (.zero, decide (sum % 256 = 0)), (.negative, decide (128 ≤ sum % 256))]

/-- Reads leave the flags alone, so changes to the flags may be counted from the state before them. -/
theorem flagsAfter_of_reads {s u t : State} {changes : List (Flag × Bool)} (hreads : ReadsTo s u)
    (h : FlagsAfter u t changes) : FlagsAfter s t changes :=
  fun f => by rw [h f, hreads.flag]

theorem flagsAfter_addWithCarry (m : Byte) {s t : State} (hp : t.p = (s.addWithCarry m).p) :
    FlagsAfter s t (additionFlags s.a m (s.flag .carry)) := by
  intro f
  rw [State.flag_congr f hp, State.flag_addWithCarry, sign_bit, sumCarry_eq, sumOverflow_eq]
  simp only [← BitVec.toNat_inj, sumByte_toNat]
  cases f <;> rfl

theorem flagsAfter_compareFlags (r m : Byte) {s t : State} (hp : t.p = (s.compareFlags r m).p) :
    FlagsAfter s t
      [(.carry, decide (m.toNat ≤ r.toNat)), (.zero, decide (r = m)),
       (.negative, decide (128 ≤ (256 + r.toNat - m.toNat) % 256))] := by
  intro f
  rw [State.flag_congr f hp, State.flag_compareFlags, sub_sign_bit]
  cases f <;> rfl

theorem flagsAfter_bitFlags (m : Byte) {s t : State} (hp : t.p = (s.bitFlags m).p) :
    FlagsAfter s t [(.zero, decide (s.a &&& m = 0)), (.negative, m.getLsbD 7), (.overflow, m.getLsbD 6)] := by
  intro f
  rw [State.flag_congr f hp, State.flag_bitFlags]
  cases f <;> rfl

/-! ### Subtraction as addition of the inverted byte -/

/-- Adding the inverted byte and the carry subtracts the byte and the borrow (R151). -/
theorem sumByte_inverted (a m : Byte) (c : Bool) :
    sumByte a (m ^^^ 0xFF) c = BitVec.ofNat 8 ((256 + a.toNat - m.toNat - (1 - c.toNat)) % 256) := by
  have := m.isLt
  have := c.toNat_le
  apply BitVec.eq_of_toNat_eq
  rw [sumByte_toNat, inverted_toNat, BitVec.toNat_ofNat]
  omega

/-- The flags of R151, in terms of the borrow. -/
theorem additionFlags_inverted (a m : Byte) (c : Bool) :
    additionFlags a (m ^^^ 0xFF) c =
      let borrow := 1 - c.toNat
      let diff := (256 + a.toNat - m.toNat - borrow) % 256
      let signed := a.toInt - m.toInt - (borrow : Int)
      [(.carry, decide (m.toNat + borrow ≤ a.toNat)), (.overflow, decide (signed < -128 ∨ 127 < signed)),
       (.zero, decide (diff = 0)), (.negative, decide (128 ≤ diff))] := by
  have := m.isLt
  have := c.toNat_le
  have hsigned : a.toInt + (-m.toInt - 1) + (c.toNat : Int) = a.toInt - m.toInt - ((1 - c.toNat : Nat) : Int) := by
    omega
  have hdiff : (a.toNat + (255 - m.toNat) + c.toNat) % 256 = (256 + a.toNat - m.toNat - (1 - c.toNat)) % 256 := by
    congr 1
    omega
  have hcarry : 255 < a.toNat + (255 - m.toNat) + c.toNat ↔ m.toNat + (1 - c.toNat) ≤ a.toNat := by
    omega
  simp only [additionFlags, inverted_toNat, inverted_toInt, hsigned, hdiff, hcarry]

/-! ### What `exec` answers -/

/-- Only the shifts and rotates have the mode ACC. -/
theorem mnemonic_of_operand_acc {i : Instr} (h : i.operand = .acc) :
    i.mnemonic ∈ [Mnemonic.asl, .lsr, .rol, .ror] := by
  cases i <;> cases h <;> decide

/-- Outside ACC, the write back is one bus write (R126). -/
theorem writeBack_of_ne_acc {o : Operand} (h : o ≠ .acc) (ea : Addr) (v : Byte) (s : State) :
    writeBack o ea v s = busWrite ea v s := by
  cases o
  case acc => exact absurd rfl h
  all_goals rfl

section
variable {i : Instr}

/-- An addition of the operand, or of a byte made of it, to `A`. -/
theorem exec_addition {f : Byte → Byte} (h : readEffect i.mnemonic = some (fun m s => s.addWithCarry (f m)))
    (s : State) :
    let l := locate i.operand s
    let m := operandByte i.operand l.1.ea l.2
    ∃ t, exec i s = .next t ∧
      t = { m.2 with
              a := sumByte s.a (f m.1) (s.flag .carry)
              p := t.p
              cpuCycles := s.cpuCycles + i.baseCycles + (if i.pgx = true ∧ l.1.crossed = true then 1 else 0) } ∧
      FlagsAfter s t (additionFlags s.a (f m.1) (s.flag .carry)) := by
  have hreads := operand_reads i.operand s
  refine ⟨_, exec_read_eq h (fun _ _ => rfl) s, ?_, ?_⟩
  · rw [← hreads.a, ← hreads.flag]
    rfl
  · rw [← hreads.a, ← hreads.flag]
    exact flagsAfter_of_reads hreads (flagsAfter_addWithCarry _ rfl)

/-- An operation of `A` and the operand whose result goes to `A`. -/
theorem exec_bitwise {op : Byte → Byte → Byte} (h : readEffect i.mnemonic = some (fun m s => loadA (op s.a m) s))
    (s : State) :
    let l := locate i.operand s
    let m := operandByte i.operand l.1.ea l.2
    ∃ t, exec i s = .next t ∧
      t = { m.2 with
              a := op s.a m.1
              p := t.p
              cpuCycles := s.cpuCycles + i.baseCycles + (if i.pgx = true ∧ l.1.crossed = true then 1 else 0) } ∧
      FlagsAfter s t [(.zero, decide (op s.a m.1 = 0)), (.negative, (op s.a m.1).getLsbD 7)] := by
  have hreads := operand_reads i.operand s
  refine ⟨_, exec_read_eq h (fun _ _ => rfl) s, ?_, ?_⟩
  · rw [← hreads.a]
    rfl
  · rw [← hreads.a]
    exact flagsAfter_of_reads hreads (flagsAfter_of_p_eq_setZN rfl)

/-- A read instruction whose effect changes `P` alone: `P` is the effect's, the rest the state after the reads. -/
theorem exec_read_flags {effect : Byte → State → State} (h : readEffect i.mnemonic = some effect)
    (hframe : ∀ v u, effect v u = { u with p := (effect v u).p }) (s : State) :
    let l := locate i.operand s
    let m := operandByte i.operand l.1.ea l.2
    ∃ t, exec i s = .next t ∧ t.p = (effect m.1 m.2).p ∧
      t = { m.2 with
              p := t.p
              cpuCycles := s.cpuCycles + i.baseCycles + (if i.pgx = true ∧ l.1.crossed = true then 1 else 0) } := by
  have hcycles (v : Byte) (u : State) : (effect v u).cpuCycles = u.cpuCycles := by rw [hframe]
  refine ⟨_, exec_read_eq h hcycles s, rfl, ?_⟩
  conv_lhs => rw [hframe]

/-- A comparison of the operand with a register that no read changes. -/
theorem exec_compare {reg : State → Byte} (h : readEffect i.mnemonic = some (fun m s => s.compareFlags (reg s) m))
    (hreg : ∀ s t, ReadsTo s t → reg t = reg s) (s : State) :
    let l := locate i.operand s
    let m := operandByte i.operand l.1.ea l.2
    ∃ t, exec i s = .next t ∧
      t = { m.2 with
              p := t.p
              cpuCycles := s.cpuCycles + i.baseCycles + (if i.pgx = true ∧ l.1.crossed = true then 1 else 0) } ∧
      FlagsAfter s t
        [(.carry, decide (m.1.toNat ≤ (reg s).toNat)), (.zero, decide (reg s = m.1)),
         (.negative, decide (128 ≤ (256 + (reg s).toNat - m.1.toNat) % 256))] := by
  have hreads := operand_reads i.operand s
  obtain ⟨t, hexec, hp, ht⟩ := exec_read_flags h (fun _ _ => rfl) s
  rw [← hreg _ _ hreads]
  exact ⟨t, hexec, ht, flagsAfter_of_reads hreads (flagsAfter_compareFlags _ _ hp)⟩

/-- A read-modify-write of a memory operand that adds `delta` and leaves Carry alone. -/
theorem exec_modify_keepCarry {compute : Byte → Byte} {delta : Nat}
    (h : modifyEffect i.mnemonic = some (fun _ v => compute v, keepCarry))
    (hcompute : ∀ v, compute v = BitVec.ofNat 8 (v.toNat + delta)) (hmode : i.operand ≠ .acc) (s : State) :
    let l := locate i.operand s
    let m := operandByte i.operand l.1.ea l.2
    let v := BitVec.ofNat 8 (m.1.toNat + delta)
    ∃ t, exec i s = .next t ∧
      t = { busWrite l.1.ea v m.2 with p := t.p, cpuCycles := s.cpuCycles + i.baseCycles } ∧
      FlagsAfter s t [(.zero, decide (v = 0)), (.negative, v.getLsbD 7)] := by
  have hreads := operand_reads i.operand s
  refine ⟨_, exec_modify h s, ?_, flagsAfter_of_reads hreads (flagsAfter_of_p_eq_setZN ?_)⟩
  all_goals simp only [modifyInstr, keepCarry, writeBack_of_ne_acc hmode, hcompute]
  · rw [← hreads.cpuCycles, ← busWrite_cpuCycles]
    rfl
  · rw [charge_p, State.setZN_p, State.setZN_p, busWrite_p]

end

/-! ### The obligations -/

/-- Settles O10: `ADC` adds the operand itself. -/
theorem addWithCarry : Obligations.AddWithCarry := by
  refine ⟨fun i => ?rows, fun i s h => ?effect⟩
  case rows =>
    intro h
    apply encodedAs_of_find
    cases i <;> cases h <;> rfl
  case effect => exact exec_addition (f := id) (congrArg readEffect h) s

/-- Settles O11: `SBC` adds the inverted operand, which subtracts the operand and the borrow. -/
theorem subtractWithCarry : Obligations.SubtractWithCarry := by
  refine ⟨fun i => ?rows, fun i s h => ?effect⟩
  case rows =>
    intro h
    apply encodedAs_of_find
    cases i <;> cases h <;> rfl
  case effect =>
    have hexec := exec_addition (f := fun m => m ^^^ 0xFF) (congrArg readEffect h) s
    simp only [sumByte_inverted, additionFlags_inverted] at hexec
    exact hexec

/-- Settles O12: the three operations differ in their function of `A` and the operand alone. -/
theorem bitwiseLogic : Obligations.BitwiseLogic := by
  refine ⟨fun i => ⟨?andRows, ?oraRows, ?eorRows⟩, fun i s op h => ?effect⟩
  case andRows | oraRows | eorRows =>
    intro h
    apply encodedAs_of_find
    cases i <;> cases h <;> rfl
  case effect =>
    simp only [List.mem_cons, List.not_mem_nil, or_false, Prod.mk.injEq] at h
    obtain ⟨h, rfl⟩ | ⟨h, rfl⟩ | ⟨h, rfl⟩ := h
    all_goals exact exec_bitwise (congrArg readEffect h) s

/-- Settles O13: the comparisons differ in their register alone, and `BIT` reads `A`; no operand read changes a
register. -/
theorem compareAndBit : Obligations.CompareAndBit := by
  refine ⟨fun i => ⟨?cmpRows, ?cpxRows, ?cpyRows, ?bitRows⟩, fun i s => ⟨fun reg h => ?compare, fun h => ?bit⟩⟩
  case cmpRows | cpxRows | cpyRows | bitRows =>
    intro h
    apply encodedAs_of_find
    cases i <;> cases h <;> rfl
  case compare =>
    simp only [List.mem_cons, List.not_mem_nil, or_false, Prod.mk.injEq] at h
    obtain ⟨h, rfl⟩ | ⟨h, rfl⟩ | ⟨h, rfl⟩ := h
    · exact exec_compare (congrArg readEffect h) (fun _ _ => ReadsTo.a) s
    · exact exec_compare (congrArg readEffect h) (fun _ _ => ReadsTo.x) s
    · exact exec_compare (congrArg readEffect h) (fun _ _ => ReadsTo.y) s
  case bit =>
    have hreads := operand_reads i.operand s
    obtain ⟨t, hexec, hp, ht⟩ := exec_read_flags (congrArg readEffect h) (fun _ _ => rfl) s
    rw [← hreads.a]
    exact ⟨t, hexec, ht, flagsAfter_of_reads hreads (flagsAfter_bitFlags _ hp)⟩

/-- Settles O14: both are read-modify-writes of memory that keep Carry, and minus one is plus 255 modulo 256. -/
theorem incDecMemory : Obligations.IncDecMemory := by
  refine ⟨fun i => ⟨?incRows, ?decRows⟩, fun i s delta h => ?effect⟩
  case incRows | decRows =>
    intro h
    apply encodedAs_of_find
    cases i <;> cases h <;> rfl
  case effect =>
    simp only [List.mem_cons, List.not_mem_nil, or_false, Prod.mk.injEq] at h
    have hmode : i.operand ≠ .acc := by
      intro hacc
      have hshift := mnemonic_of_operand_acc hacc
      obtain ⟨h, -⟩ | ⟨h, -⟩ := h <;> simp [h] at hshift
    obtain ⟨h, rfl⟩ | ⟨h, rfl⟩ := h
    · exact exec_modify_keepCarry (congrArg modifyEffect h) (fun v => byte_add_ofNat v 1) hmode s
    · exact exec_modify_keepCarry (congrArg modifyEffect h) byte_sub_one hmode s

/-- Settles O15: each ends in `SetZN` of the register plus or minus one, and minus one is plus 255 modulo 256. -/
theorem incDecRegisters : Obligations.IncDecRegisters := by
  refine ⟨by decide, fun s => ?_⟩
  simp only [← byte_add_ofNat, ← byte_sub_one]
  refine ⟨?inx, ?iny, ?dex, ?dey⟩
  case inx | iny | dex | dey => exact ⟨_, rfl, flagsAfter_of_p_eq_setZN rfl, rfl⟩

end Sys2Proof.Machine
end

section
/-! PROOFS of the family 43_shift_rotate.md: the shifts and rotates (R170 to R173), on `A` and on memory. -/

namespace Sys2Proof.Machine

/-! ### Bytes in the spec's arithmetic -/

theorem shiftLeft_toNat (v : Byte) : (shiftLeft v).1.toNat = 2 * v.toNat % 256 := by
  rw [shiftLeft, BitVec.toNat_shiftLeft, Nat.shiftLeft_eq, Nat.mul_comm]

theorem shiftRight_toNat (v : Byte) : (shiftRight v).1.toNat = v.toNat / 2 := by
  rw [shiftRight, BitVec.toNat_ushiftRight, Nat.shiftRight_eq_div_pow]

/-- The old carry enters bit 0, which the shift has left clear (R172). -/
theorem rotateLeft_toNat (c : Bool) (v : Byte) :
    (rotateLeft c v).1.toNat = (2 * v.toNat + c.toNat) % 256 := by
  have hcarry : (if c then 0x01 else 0x00 : Byte).toNat = c.toNat := by cases c <;> rfl
  have hshifted : (v <<< 1).toNat = 2 ^ 1 * (v.toNat % 128) := by
    rw [← Nat.mul_mod_mul_left]
    exact shiftLeft_toNat v
  have := c.toNat_lt
  rw [rotateLeft, BitVec.toNat_or, hcarry, hshifted, ← Nat.two_pow_add_eq_or_of_lt (by omega)]
  omega

/-- The old carry enters bit 7, which the shift has left clear (R173). -/
theorem rotateRight_toNat (c : Bool) (v : Byte) :
    (rotateRight c v).1.toNat = v.toNat / 2 + 128 * c.toNat := by
  have hcarry : (if c then 0x80 else 0x00 : Byte).toNat = 2 ^ 7 * c.toNat := by cases c <;> rfl
  have hshifted : (v >>> 1).toNat = v.toNat / 2 := shiftRight_toNat v
  have := v.isLt
  rw [rotateRight, BitVec.toNat_or, hcarry, hshifted, Nat.or_comm, ← Nat.two_pow_add_eq_or_of_lt (by omega),
    Nat.add_comm]

/-- The bit that leaves on the left is bit 7. -/
theorem carryLeft_eq (v : Byte) : carryLeft v = some (decide (128 ≤ v.toNat)) :=
  congrArg some (sign_bit v)

/-- The bit that leaves on the right is bit 0. -/
theorem carryRight_eq (v : Byte) : carryRight v = some (decide (v.toNat % 2 = 1)) :=
  congrArg some (Nat.testBit_zero v.toNat)

/-! ### Write back and flags -/

/-- A write back does not look at `P`. -/
theorem writeBack_setFlag (o : Operand) (ea : Addr) (v : Byte) (f : Flag) (b : Bool) (s : State) :
    writeBack o ea v (s.setFlag f b) = (writeBack o ea v s).setFlag f b := by
  by_cases hacc : o = .acc
  · subst hacc
    rfl
  · simp only [writeBack_of_ne_acc hacc, State.setFlag, busWrite_p_commutes, busWrite_p]

@[simp] theorem writeBack_p (o : Operand) (ea : Addr) (v : Byte) (s : State) : (writeBack o ea v s).p = s.p := by
  cases o
  case acc => rfl
  all_goals exact busWrite_p ea v s

@[simp] theorem writeBack_cpuCycles (o : Operand) (ea : Addr) (v : Byte) (s : State) :
    (writeBack o ea v s).cpuCycles = s.cpuCycles := by
  cases o
  case acc => rfl
  all_goals exact busWrite_cpuCycles ea v s

/-- The write back of an instruction's operand: in ACC no read has come before it. -/
theorem writeBack_after_operand (o : Operand) (v : Byte) (s : State) :
    let l := locate o s
    let m := operandByte o l.1.ea l.2
    writeBack o l.1.ea v m.2 = if o = .acc then { s with a := v } else busWrite l.1.ea v m.2 := by
  by_cases hacc : o = .acc
  · subst hacc
    rfl
  · simp only [writeBack_of_ne_acc hacc, if_neg hacc]

/-- After a write back, `P` from a new Carry and `SetZN(r)`, the charge of the cycles, and nothing else. -/
theorem charge_setZN_setCarry {s u : State} {c : Bool} (r : Byte) (n : Nat) (hp : u.p = s.p)
    (hcycles : u.cpuCycles = s.cpuCycles) :
    let t := charge n ((u.setFlag .carry c).setZN r)
    t = { u with p := t.p, cpuCycles := s.cpuCycles + n } ∧
      FlagsAfter s t [(.carry, c), (.zero, decide (r.toNat = 0)), (.negative, decide (128 ≤ r.toNat))] := by
  have hzero : r = 0x00 ↔ r.toNat = 0 := BitVec.toNat_inj.symm
  refine ⟨by rw [← hcycles]; rfl, fun f => ?_⟩
  rw [State.flag_charge, State.flag_setZN, State.flag_setFlag, sign_bit, State.flag_congr f hp]
  simp only [hzero]
  cases f <;> rfl

/-! ### What `exec` answers -/

/-- A read-modify-write, on `A` or on memory, whose result is `result` and that moves `carry` to Carry. -/
theorem exec_modify_setCarry {i : Instr} {s : State} {compute : State → Byte → Byte}
    {carryOf : Byte → Option Bool} {result : Nat} {carry : Bool}
    (h : modifyEffect i.mnemonic = some (compute, carryOf)) :
    let l := locate i.operand s
    let m := operandByte i.operand l.1.ea l.2
    (compute m.2 m.1).toNat = result → carryOf m.1 = some carry →
    ∃ t, exec i s = .next t ∧
      t = { (if i.operand = .acc then { s with a := BitVec.ofNat 8 result }
             else busWrite l.1.ea (BitVec.ofNat 8 result) m.2) with
            p := t.p, cpuCycles := s.cpuCycles + i.baseCycles } ∧
      FlagsAfter s t [(.carry, carry), (.zero, decide (result = 0)), (.negative, decide (128 ≤ result))] := by
  intro l m hresult hcarry
  subst hresult
  have hreads : ReadsTo s m.2 := operand_reads i.operand s
  have hmodify : modifyInstr compute carryOf i.operand i.baseCycles s =
      charge i.baseCycles
        (((writeBack i.operand l.1.ea (compute m.2 m.1) m.2).setFlag .carry carry).setZN (compute m.2 m.1)) := by
    rw [← writeBack_setFlag]
    simp only [modifyInstr, l, m, hcarry]
  rw [BitVec.ofNat_toNat, BitVec.setWidth_eq, ← writeBack_after_operand]
  exact ⟨_, (exec_modify h s).trans (congrArg _ hmodify),
    charge_setZN_setCarry _ _ ((writeBack_p ..).trans hreads.p) ((writeBack_cpuCycles ..).trans hreads.cpuCycles)⟩

/-! ### The obligation -/

/-- Settles O16: the four are read-modify-writes that set Carry; they differ in the byte they compute and in the bit
that leaves it, and no operand read changes the old carry that the rotates take in. -/
theorem shiftsAndRotates : Obligations.ShiftsAndRotates := by
  refine ⟨fun i => ⟨?aslRows, ?lsrRows, ?rolRows, ?rorRows⟩, fun i s => ?effect⟩
  case aslRows | lsrRows | rolRows | rorRows =>
    intro h
    apply encodedAs_of_find
    cases i <;> cases h <;> rfl
  case effect =>
    intro l m v c result carry h
    have hreads : ReadsTo s m.2 := operand_reads i.operand s
    simp only [List.mem_cons, List.not_mem_nil, or_false, Prod.mk.injEq] at h
    obtain ⟨h, rfl, rfl⟩ | ⟨h, rfl, rfl⟩ | ⟨h, rfl, rfl⟩ | ⟨h, rfl, rfl⟩ := h
    · exact exec_modify_setCarry (congrArg modifyEffect h) (shiftLeft_toNat m.1) (carryLeft_eq m.1)
    · exact exec_modify_setCarry (congrArg modifyEffect h) (shiftRight_toNat m.1) (carryRight_eq m.1)
    · refine exec_modify_setCarry (congrArg modifyEffect h) ?_ (carryLeft_eq m.1)
      rw [rotateLeft_toNat, hreads.flag]
    · refine exec_modify_setCarry (congrArg modifyEffect h) ?_ (carryRight_eq m.1)
      rw [rotateRight_toNat, hreads.flag]

end Sys2Proof.Machine
end

section
/-! PROOFS of the family 44_branch_jump.md: the branches (R180 to R188), `JMP` (R189), and `JSR` and `RTS` (R190,
R191). -/

namespace Sys2Proof.Machine

/-! ### Branches -/

/-- The target in the spec's arithmetic: the incremented `PC` plus the signed displacement, modulo 65536 (R124). -/
theorem branchTarget_eq (b1 : Byte) (s : State) :
    branchTarget b1 s = BitVec.ofInt 16 ((s.pc.toNat : Int) + b1.toInt) := by
  rw [BitVec.ofInt_add, BitVec.ofInt_natCast, BitVec.ofNat_toNat, BitVec.setWidth_eq]
  rfl

/-- A branch changes at most `PC` and the cycle count. -/
theorem branch_eq (cond : Bool) (b1 : Byte) (s : State) :
    branch cond b1 s =
      if cond then
        { s with
          pc := branchTarget b1 s
          cpuCycles := s.cpuCycles + (if (branchTarget b1 s).toNat / 256 = s.pc.toNat / 256 then 3 else 4) }
      else { s with cpuCycles := s.cpuCycles + 2 } := by
  simp only [branch, charge, samePage_eq, decide_eq_true_eq]

/-- The eight branches differ in the flag that they test and in the value that they want of it, and in nothing else. -/
theorem exec_branch {i : Instr} {f : Flag} {wanted : Bool} {b1 : Byte}
    (h : (i, f, wanted) ∈
      [(Instr.bcc b1, Flag.carry, false), (.bcs b1, .carry, true), (.beq b1, .zero, true), (.bne b1, .zero, false),
       (.bmi b1, .negative, true), (.bpl b1, .negative, false), (.bvc b1, .overflow, false),
       (.bvs b1, .overflow, true)]) (s : State) :
    exec i s = .next (branch (s.flag f == wanted) b1 s) := by
  simp only [List.mem_cons, List.not_mem_nil, or_false, Prod.mk.injEq] at h
  obtain ⟨rfl, rfl, rfl⟩ | ⟨rfl, rfl, rfl⟩ | ⟨rfl, rfl, rfl⟩ | ⟨rfl, rfl, rfl⟩ |
    ⟨rfl, rfl, rfl⟩ | ⟨rfl, rfl, rfl⟩ | ⟨rfl, rfl, rfl⟩ | ⟨rfl, rfl, rfl⟩ := h
  all_goals
    simp only [beq_true, beq_false]
    rfl

/-! ### Jumps -/

/-- In ABS the effective address is the operand (R118). -/
theorem locate_abs (b1 b2 : Byte) (s : State) :
    locate (.abs b1 b2) s = (⟨BitVec.ofNat 16 (256 * b2.toNat + b1.toNat), false⟩, s) := by
  rw [← word16_eq]
  rfl

/-- A jump changes `PC` and the cycle count, and what the reads of its mode change. -/
theorem jump_eq (o : Operand) (base : Nat) (s : State) :
    jump o base s = { (locate o s).2 with pc := (locate o s).1.ea, cpuCycles := s.cpuCycles + base } := by
  simp only [jump, charge, (locate_reads o s).cpuCycles]

/-! ### Subroutines -/

/-- `JSR` writes two bytes of the stack page and moves `SP` and `PC`. -/
theorem jumpSubroutine_abs (b1 b2 : Byte) (base : Nat) (s : State) :
    jumpSubroutine (.abs b1 b2) base s =
      { s with
        ram :=
          Memory.write (Memory.write s.ram (0x100 + s.sp.toNat) (BitVec.ofNat 8 ((s.pc - 1).toNat / 256)))
            (0x100 + (s.sp - 1).toNat) (BitVec.ofNat 8 ((s.pc - 1).toNat % 256))
        sp := s.sp - 2
        pc := BitVec.ofNat 16 (256 * b2.toNat + b1.toNat)
        cpuCycles := s.cpuCycles + base } := by
  simp only [jumpSubroutine, charge, locate_abs, push16_eq, hiByte_eq, loByte_eq]

/-- `RTS` only reads the stack page, and moves `SP` and `PC`. -/
theorem impliedInstr_returnSubroutine (base : Nat) (s : State) :
    impliedInstr returnSubroutine base s =
      { s with
        sp := s.sp + 2
        pc :=
          BitVec.ofNat 16
            (256 * (Memory.read s.ram (0x100 + (s.sp + 2).toNat)).toNat +
              (Memory.read s.ram (0x100 + (s.sp + 1).toNat)).toNat + 1)
        cpuCycles := s.cpuCycles + base } := by
  simp only [impliedInstr, charge, returnSubroutine, pull16_eq, word16_eq, BitVec.ofNat_add, BitVec.ofNat_eq_ofNat]

/-! ### The obligations -/

/-- Settles O17: all eight are `branch` on a flag test, with the target and the page test in the spec's arithmetic. -/
theorem branches : Obligations.Branches := by
  refine ⟨fun b1 => ?encodings, fun s b1 i f wanted h => ?effect⟩
  case encodings => exact ⟨rfl, rfl, rfl, rfl, rfl, rfl, rfl, rfl⟩
  case effect =>
    rw [exec_branch h, branch_eq, branchTarget_eq]
    simp only [beq_iff_eq]

/-- Settles O18: both formats are `jump` through their mode; ABS makes no read. -/
theorem jumps : Obligations.Jumps := by
  refine ⟨fun b1 b2 => ⟨rfl, rfl⟩, fun s b1 b2 => ⟨?abs, ?ind⟩⟩
  case abs =>
    have habs := jump_eq (.abs b1 b2) 3 s
    rw [locate_abs] at habs
    exact congrArg _ habs
  case ind => exact congrArg _ (jump_eq (.ind b1 b2) 5 s)

/-- Settles O19: `JSR` pushes the two bytes of `PC - 1` (R190), and `RTS` pulls them back and adds one (R191). -/
theorem subroutines : Obligations.Subroutines := by
  refine ⟨fun b1 b2 => ⟨rfl, rfl⟩, fun s b1 b2 => ⟨?jsr, ?rts⟩⟩
  case jsr => exact congrArg _ (jumpSubroutine_abs b1 b2 6 s)
  case rts => exact congrArg _ (impliedInstr_returnSubroutine 6 s)

end Sys2Proof.Machine
end

section
/-! PROOFS of the family 45_stack_flags_system.md: pushes and pulls (R200 to R203), the flag instructions and `NOP`
(R204 to R211), `BRK` and `RTI` (R212, R213), and the undefined opcodes (R214). -/

namespace Sys2Proof.Machine

/-! ### Flags -/

/-- The flags of a state whose `P` is the one that `P.f <- b` leaves. -/
theorem flagsAfter_of_p_eq_setFlag {s t : State} {f : Flag} {b : Bool} (hp : t.p = (s.setFlag f b).p) :
    FlagsAfter s t [(f, b)] := by
  intro g
  rw [State.flag_congr g hp, State.flag_setFlag]
  by_cases hg : g = f
  · simp [hg]
  · have hbeq : (g == f) = false := beq_false_of_ne hg
    simp [hg, List.lookup_cons, hbeq]

/-- Setting one flag changes `P` and the cycle count alone. -/
theorem impliedInstr_setFlag (f : Flag) (b : Bool) (base : Nat) (s : State) :
    let t := impliedInstr (State.setFlag f b) base s
    t = { s with p := t.p, cpuCycles := s.cpuCycles + base } ∧ FlagsAfter s t [(f, b)] :=
  ⟨rfl, flagsAfter_of_p_eq_setFlag rfl⟩

/-! ### Pushes and pulls -/

/-- A push instruction writes one byte of the stack page and moves `SP`. -/
theorem impliedInstr_push (source : State → Byte) (base : Nat) (s : State) :
    impliedInstr (fun s => push (source s) s) base s =
      { s with
        ram := Memory.write s.ram (0x100 + s.sp.toNat) (source s)
        sp := s.sp - 1
        cpuCycles := s.cpuCycles + base } := by
  simp only [impliedInstr, charge, push_eq]

/-- `PLA` takes `A`, and `P` from `SetZN`, out of one byte of the stack page, and moves `SP`. -/
theorem impliedInstr_pullA (base : Nat) (s : State) :
    let pulled := Memory.read s.ram (0x100 + (s.sp + 1).toNat)
    impliedInstr pullA base s =
      { s with a := pulled, sp := s.sp + 1, p := (s.setZN pulled).p, cpuCycles := s.cpuCycles + base } := by
  simp only [impliedInstr, charge, pullA, pull_eq]
  rfl

/-- `PLP` takes `P` out of one byte of the stack page, and moves `SP`. -/
theorem impliedInstr_pullP (base : Nat) (s : State) :
    impliedInstr pullP base s =
      { s with
        p := statusOfPulled (Memory.read s.ram (0x100 + (s.sp + 1).toNat))
        sp := s.sp + 1
        cpuCycles := s.cpuCycles + base } := by
  simp only [impliedInstr, charge, pullP, pull_eq]

/-! ### `BRK` and `RTI` -/

/-- `BRK` writes three bytes of the stack page, sets InterruptDisable and takes `PC` from PRG-ROM: its vector lies above
0x8000, where the cartridge answers (R212). -/
theorem impliedInstr_softwareInterrupt (base : Nat) (s : State) :
    let back := s.pc + 1
    let vector := fun a : Addr => (Memory.read s.cart.prg (s.cart.prgIndex a)).toNat
    impliedInstr softwareInterrupt base s =
      { s with
        ram :=
          Memory.write
            (Memory.write (Memory.write s.ram (0x100 + s.sp.toNat) (BitVec.ofNat 8 (back.toNat / 256)))
              (0x100 + (s.sp - 1).toNat) (BitVec.ofNat 8 (back.toNat % 256)))
            (0x100 + (s.sp - 2).toNat) (pushedByBrk s.p)
        sp := s.sp - 3
        p := (s.setFlag .interruptDisable true).p
        pc := BitVec.ofNat 16 (256 * vector 0xFFFF + vector 0xFFFE)
        cpuCycles := s.cpuCycles + base } := by
  have hlow : 0x8000 ≤ (0xFFFE : Addr).toNat := by decide
  have hhigh : 0x8000 ≤ (0xFFFE + 1 : Addr).toNat := by decide
  simp only [impliedInstr, charge, softwareInterrupt, takeInterrupt_eq _ _ hlow hhigh, word16_eq, hiByte_eq, loByte_eq]
  rfl

/-- `RTI` only reads the stack page, and moves `P`, `SP` and `PC`. -/
theorem impliedInstr_returnFromInterrupt (base : Nat) (s : State) :
    impliedInstr returnFromInterrupt base s =
      { s with
        p := statusOfPulled (Memory.read s.ram (0x100 + (s.sp + 1).toNat))
        pc :=
          BitVec.ofNat 16
            (256 * (Memory.read s.ram (0x100 + (s.sp + 3).toNat)).toNat +
              (Memory.read s.ram (0x100 + (s.sp + 2).toNat)).toNat)
        sp := s.sp + 3
        cpuCycles := s.cpuCycles + base } := by
  simp only [impliedInstr, charge, returnFromInterrupt_eq, word16_eq]

/-! ### Undefined opcodes -/

/-- Under the policy `fault` an undefined opcode records its byte and its address, one below `PC`, and nothing else. -/
theorem exec_ill_of_fault (op : Byte) {s : State} (h : s.params.illegalOpcodePolicy = .fault) :
    exec (.ill op) s = .next { s with fault := some (.illegalOpcode op (s.pc - 1)) } := by
  change execIll op s = _
  rw [execIll, h]

/-- Under the policy `nop` an undefined opcode passes two cycles and does nothing else. -/
theorem exec_ill_of_nop (op : Byte) {s : State} (h : s.params.illegalOpcodePolicy = .nop) :
    exec (.ill op) s = .next { s with cpuCycles := s.cpuCycles + 2 } := by
  change execIll op s = _
  rw [execIll, h, charge]

/-! ### The obligations -/

/-- Settles O20: two pushes and two pulls of the stack page; the status bytes are those of R202 and R203. -/
theorem pushAndPull : Obligations.PushAndPull := by
  refine ⟨⟨rfl, rfl, rfl, rfl⟩, fun s => ⟨?pha, ?php, ?pla, ?plp⟩⟩
  case pha => exact congrArg Host.Outcome.next (impliedInstr_push State.a 3 s)
  case php => exact congrArg Host.Outcome.next (impliedInstr_push (fun s => pushedByBrk s.p) 3 s)
  case pla =>
    exact ⟨_, congrArg Host.Outcome.next (impliedInstr_pullA 4 s), rfl, flagsAfter_of_p_eq_setZN rfl⟩
  case plp => exact congrArg Host.Outcome.next (impliedInstr_pullP 4 s)

/-- Settles O22: `BRK` is the interrupt entry from the address after its skipped byte, and `RTI` the return. -/
theorem breakAndReturn : Obligations.BreakAndReturn := by
  refine ⟨⟨rfl, rfl⟩, fun s => ⟨?brk, ?rti⟩⟩
  case brk =>
    exact ⟨_, congrArg Host.Outcome.next (impliedInstr_softwareInterrupt 7 s), rfl, flagsAfter_of_p_eq_setFlag rfl⟩
  case rti => exact congrArg Host.Outcome.next (impliedInstr_returnFromInterrupt 6 s)

/-- Settles O21: seven instructions set one flag, and `NOP` changes the cycle count alone. -/
theorem flagInstructions : Obligations.FlagInstructions := by
  refine ⟨by decide, fun s i changes h => ?effect⟩
  simp only [List.mem_cons, List.not_mem_nil, or_false, Prod.mk.injEq] at h
  obtain ⟨rfl, rfl⟩ | ⟨rfl, rfl⟩ | ⟨rfl, rfl⟩ | ⟨rfl, rfl⟩ | ⟨rfl, rfl⟩ | ⟨rfl, rfl⟩ | ⟨rfl, rfl⟩ | ⟨rfl, rfl⟩ := h
  pick_goal 8
  · exact ⟨_, rfl, rfl, fun _ => rfl⟩
  all_goals exact ⟨_, rfl, impliedInstr_setFlag _ _ 2 s⟩

/-- Settles O24: one equation for each policy. -/
theorem undefinedOpcodeAction : Obligations.UndefinedOpcodeAction :=
  fun _ op => ⟨exec_ill_of_fault op, exec_ill_of_nop op⟩

end Sys2Proof.Machine
end

section
/-! PROOFS of the family 46_ppu_registers_and_timing.md: the accesses to the eight registers (R221 to R231, R233) and the
clock tick of the PPU (R235 to R238). -/

namespace Sys2Proof.Machine

/-! ### The way from the bus to a register -/

/-- A bus read from 0x2000 to 0x3FFF is a read of the register that `a & 7` names (20_memory.md R54, R57). -/
theorem busRead_at_ppu {a : Addr} (s : State) (hlow : 0x2000 ≤ a.toNat) (hhigh : a.toNat ≤ 0x3FFF) :
    busRead a s = ppuRegRead (ppuRegOf a) s := by
  simp [busRead, s.cart.cpuRead_low (show a.toNat < 0x6000 by omega), show ¬ a.toNat ≤ 0x1FFF by omega, hhigh]

/-- A bus write from 0x2000 to 0x3FFF is a write of the register that `a & 7` names (20_memory.md R55, R57). -/
theorem busWrite_at_ppu {a : Addr} (v : Byte) (s : State) (hlow : 0x2000 ≤ a.toNat) (hhigh : a.toNat ≤ 0x3FFF) :
    busWrite a v s = ppuRegWrite (ppuRegOf a) v s := by
  simp [busWrite, s.cart.cpuWrite_low v (show a.toNat < 0x6000 by omega), show ¬ a.toNat ≤ 0x1FFF by omega, hhigh]

/-! ### PPUSTATUS and PPUCTRL -/

/-- The PPUSTATUS byte in arithmetic (R225). -/
theorem Ppu.statusByte_eq (p : Ppu) :
    p.statusByte = BitVec.ofNat 8 (128 * p.vblank.toNat + 64 * p.sprite0Hit.toNat) := by
  unfold Ppu.statusByte
  cases p.vblank <;> cases p.sprite0Hit <;> rfl

/-- A PPUCTRL write stores its value, and takes the request of the period if that is still open (R223). -/
theorem writeCtrl_eq (v : Byte) (s : State) :
    let fires := v.getLsbD 7 && s.ppu.vblank && !s.ppu.nmiFired
    writeCtrl v s =
      { s with
        ppu := { s.ppu with ctrl := v, nmiFired := s.ppu.nmiFired || fires }
        nmiPending := s.nmiPending || fires } := by
  unfold writeCtrl
  dsimp only
  split_ifs with henabled
  · simp only [requestNmiOnce_eq, henabled, Bool.true_and, Bool.or_not_self]
  · simp only [Bool.not_eq_true] at henabled
    simp only [henabled, Bool.false_and, Bool.or_false]

/-! ### PPUADDR -/

/-- A VRAM address joined from its high part and its low byte. -/
theorem or_eq_ofNat_of_high_low {high low : PpuAddr} {n m : Nat} (hhigh : high.toNat = 256 * n) (hlow : low.toNat = m)
    (hm : m < 256) : high ||| low = BitVec.ofNat 14 (256 * n + m) := by
  apply BitVec.eq_of_toNat_eq
  have hjoin : 256 * n + m = 256 * n ||| m := Nat.two_pow_add_eq_or_of_lt (i := 8) hm n
  rw [BitVec.toNat_ofNat, hjoin, ← hhigh, ← hlow, ← BitVec.toNat_or, Nat.mod_eq_of_lt (high ||| low).isLt]

/-- The high 6 bits of a VRAM address, kept in place. -/
theorem and_high_toNat (a : PpuAddr) : (a &&& 0x3F00).toNat = 256 * (a.toNat / 256) := by
  have hshift : a &&& (0x3F00 : PpuAddr) = (a >>> 8) <<< 8 := by
    apply BitVec.eq_of_getLsbD_eq
    intro i hi
    interval_cases i <;> simp
  have := a.isLt
  simp only [hshift, BitVec.toNat_shiftLeft, BitVec.toNat_ushiftRight, Nat.shiftLeft_eq, Nat.shiftRight_eq_div_pow]
  omega

/-- The low byte of a VRAM address. -/
theorem and_low_toNat (a : PpuAddr) : (a &&& 0x00FF).toNat = a.toNat % 256 := by
  rw [BitVec.toNat_and]
  exact Nat.and_two_pow_sub_one_eq_mod a.toNat 8

/-- The 6 bits of a byte that the first PPUADDR write takes, moved to the high part of the address. -/
theorem masked_shiftLeft_toNat (v : Byte) : ((v &&& 0x3F).setWidth 14 <<< 8).toNat = 256 * (v.toNat % 64) := by
  have hmask : (v &&& 0x3F).toNat = v.toNat % 64 := by
    rw [BitVec.toNat_and]
    exact Nat.and_two_pow_sub_one_eq_mod v.toNat 6
  simp only [BitVec.toNat_shiftLeft, BitVec.toNat_setWidth, hmask, Nat.shiftLeft_eq]
  omega

/-- A PPUADDR write sets the high or the low part of the address, by the toggle (R229). -/
theorem writeAddr_eq (v : Byte) (s : State) :
    writeAddr v s =
      { s with
        ppu :=
          if s.ppu.w = true then
            { s.ppu with vramAddr := BitVec.ofNat 14 (256 * (s.ppu.vramAddr.toNat / 256) + v.toNat), w := false }
          else
            { s.ppu with
              vramAddr := BitVec.ofNat 14 (256 * (v.toNat % 64) + s.ppu.vramAddr.toNat % 256), w := true } } := by
  have hv : (v.setWidth 14).toNat = v.toNat := BitVec.toNat_setWidth_of_le (by decide)
  unfold writeAddr
  split_ifs
  · rw [or_eq_ofNat_of_high_low (and_high_toNat _) hv v.isLt]
  · rw [or_eq_ofNat_of_high_low (masked_shiftLeft_toNat v) (and_low_toNat _) (Nat.mod_lt _ (by decide))]

/-! ### PPUDATA -/

/-- The address advances by 1 or 32 modulo 16384 (R233). -/
theorem vramIncrement_eq (s : State) :
    vramIncrement s =
      { s with
        ppu.vramAddr := BitVec.ofNat 14 (s.ppu.vramAddr.toNat + (if s.ppu.ctrl.getLsbD 2 = true then 32 else 1)) } := by
  unfold vramIncrement
  split_ifs <;> rw [BitVec.ofNat_add, BitVec.ofNat_toNat, BitVec.setWidth_eq] <;> rfl

/-- The cartridge takes a PPU write to the pattern tables when it has CHR-RAM (20_memory.md R66). -/
theorem ppuWrite_of_chrRam {a : PpuAddr} (v : Byte) {s : State} (ha : a.toNat ≤ 0x1FFF)
    (hram : s.cart.chrIsRam = true) :
    ppuWrite a v s = { s with cart.chr := Memory.write s.cart.chr (s.cart.chrIndex a) v } := by
  simp [ppuWrite, Cartridge.ppuWrite, ha, hram]

/-- Every other PPU write goes to `vram` through the mirror (20_memory.md R66). -/
theorem ppuWrite_of_unclaimed {a : PpuAddr} (v : Byte) {s : State}
    (h : 0x2000 ≤ a.toNat ∨ s.cart.chrIsRam = false) :
    ppuWrite a v s = { s with ppu.vram := Memory.write s.ppu.vram (mirrorAddr s.cart.mirroring a).toNat v } := by
  have hclaim : ¬ (a.toNat ≤ 0x1FFF ∧ s.cart.chrIsRam = true) := by
    rintro ⟨ha, hram⟩
    simp only [hram, Bool.true_eq_false, or_false] at h
    omega
  simp [ppuWrite, Cartridge.ppuWrite, hclaim]

/-- The buffered byte comes out of a PPUDATA read exactly below the palette (R230). -/
theorem readData_byte (s : State) :
    (readData s).1 = if s.ppu.vramAddr.toNat < 0x3F00 then s.ppu.dataBuffer else ppuRead s s.ppu.vramAddr := by
  simp only [readData, ← not_lt, ite_not]

/-! ### One PPU clock -/

theorem positionEvents_vblankEnter {s : State} (hy : s.ppu.pixelY = 241) (hx : s.ppu.pixelX = 1) :
    positionEvents s = vblankEnter s := by
  simp [positionEvents, hy, hx]

theorem positionEvents_vblankLeave {s : State} (hy : s.ppu.pixelY = 261) (hx : s.ppu.pixelX = 1) :
    positionEvents s = vblankLeave s := by
  simp [positionEvents, hy, hx]

theorem positionEvents_visible {s : State} (hy : s.ppu.pixelY ≤ 239) (hx : s.ppu.pixelX ≤ 255) :
    positionEvents s = renderPixel s.ppu.pixelX s.ppu.pixelY s := by
  simp [positionEvents, Config.renderXOffset, hy, hx, show s.ppu.pixelY ≠ 241 by omega,
    show s.ppu.pixelY ≠ 261 by omega]

theorem positionEvents_idle {s : State} (henter : ¬ (s.ppu.pixelY = 241 ∧ s.ppu.pixelX = 1))
    (hleave : ¬ (s.ppu.pixelY = 261 ∧ s.ppu.pixelX = 1)) (hvisible : ¬ (s.ppu.pixelY ≤ 239 ∧ s.ppu.pixelX ≤ 255)) :
    positionEvents s = s := by
  simp [positionEvents, Config.renderXOffset, henter, hleave, hvisible]

/-- Away from the two vblank positions, a clock keeps the vblank flag, the NMI latch and the request. -/
theorem positionEvents_keeps_vblank {s : State} (henter : ¬ (s.ppu.pixelY = 241 ∧ s.ppu.pixelX = 1))
    (hleave : ¬ (s.ppu.pixelY = 261 ∧ s.ppu.pixelX = 1)) :
    (positionEvents s).ppu.vblank = s.ppu.vblank ∧ (positionEvents s).ppu.nmiFired = s.ppu.nmiFired ∧
      (positionEvents s).nmiPending = s.nmiPending := by
  by_cases hvisible : s.ppu.pixelY ≤ 239 ∧ s.ppu.pixelX ≤ 255
  · rw [positionEvents_visible hvisible.1 hvisible.2]
    exact ⟨rfl, rfl, rfl⟩
  · rw [positionEvents_idle henter hleave hvisible]
    exact ⟨rfl, rfl, rfl⟩

/-- One PPU clock is the events of the position, then the advance of the counters in 341 by 262 (R235, R238). -/
theorem ppuTick_eq {s : State} (hlegal : s.PositionLegal) :
    let x := s.ppu.pixelX
    let y := s.ppu.pixelY
    ppuTick s =
      { positionEvents s with
        ppu :=
          { (positionEvents s).ppu with
            pixelX := (x + 1) % 341
            pixelY := if x = 340 then (y + 1) % 262 else y
            frameComplete := s.ppu.frameComplete || decide (x = 340 ∧ y = 261)
            frameCount := s.ppu.frameCount + (if x = 340 ∧ y = 261 then 1 else 0) } } := by
  obtain ⟨hx, hy⟩ := hlegal
  have hcolumn : (if s.ppu.pixelX = 340 then 0 else s.ppu.pixelX + 1) = (s.ppu.pixelX + 1) % 341 := by
    split_ifs <;> omega
  have hline : (if s.ppu.pixelY = 261 then 0 else s.ppu.pixelY + 1) = (s.ppu.pixelY + 1) % 262 := by
    split_ifs <;> omega
  simp only [ppuTick, advancePosition_eq, positionEvents_pixelX, positionEvents_pixelY, positionEvents_frameComplete,
    positionEvents_frameCount, hcolumn, hline]

/-- A clock changes the fields it may change to what they are after it, and no other. -/
theorem TicksTo.eq_update {s t : State} (h : TicksTo s t) :
    t =
      { s with
        ppu :=
          { s.ppu with
            vblank := t.ppu.vblank
            sprite0Hit := t.ppu.sprite0Hit
            nmiFired := t.ppu.nmiFired
            pixelX := t.ppu.pixelX
            pixelY := t.ppu.pixelY
            frameComplete := t.ppu.frameComplete
            frameCount := t.ppu.frameCount
            framebuffer := t.ppu.framebuffer }
        nmiPending := t.nmiPending } := by
  obtain ⟨_, _, _, _, _, _, _, _, _, rfl⟩ := h
  rfl

/-! ### The obligations -/

/-- Settles O39: the read and the two kinds of write, each with the advance of the address. -/
theorem dataPort : Obligations.DataPort := by
  intro a v s hlow hhigh hreg
  have hdata : ppuRegOf a = .data := by simp [ppuRegOf, hreg]
  rw [busRead_at_ppu s hlow hhigh, busWrite_at_ppu v s hlow hhigh, hdata]
  refine ⟨Prod.ext (readData_byte s) (vramIncrement_eq _), fun haddr hram => ?_, fun hunclaimed => ?_⟩
  · simp only [ppuRegWrite, writeData, ppuWrite_of_chrRam v haddr hram, vramIncrement_eq]
  · simp only [ppuRegWrite, writeData, ppuWrite_of_unclaimed v hunclaimed, vramIncrement_eq]

/-- Settles O49: the position decides the event, and the advance of the counters keeps what the event did. -/
theorem clockTick : Obligations.ClockTick := by
  intro s hlegal
  have htick := ppuTick_eq hlegal
  refine ⟨?enter, ?leave, ?other, ?_, ?_, ?_, ?_, (ppuTick_ticks s).eq_update⟩
  case enter =>
    rintro ⟨hy, hx⟩
    rw [htick, positionEvents_vblankEnter hy hx, vblankEnter_eq]
    refine ⟨rfl, rfl, ?_, rfl, rfl⟩
    simp only [Ppu.nmiEnable]
    cases s.ppu.nmiFired <;> simp
  case leave =>
    rintro ⟨hy, hx⟩
    rw [htick, positionEvents_vblankLeave hy hx]
    exact ⟨rfl, rfl, rfl, rfl, rfl⟩
  case other =>
    intro henter hleave
    obtain ⟨hvblank, hfired, hpending⟩ := positionEvents_keeps_vblank henter hleave
    rw [htick]
    refine ⟨hvblank, hfired, hpending, fun hvisible => ?_, fun hhidden => ?_⟩
    · rw [positionEvents_visible hvisible.1 hvisible.2]
      exact ⟨rfl, rfl⟩
    · rw [positionEvents_idle henter hleave hhidden]
      exact ⟨rfl, rfl⟩
  all_goals rw [htick]

/-- Settles O35: the byte in arithmetic, and the two flags the read clears. -/
theorem statusRead : Obligations.StatusRead := by
  intro a s hlow hhigh hreg
  have hstatus : ppuRegOf a = .status := by simp [ppuRegOf, hreg]
  rw [busRead_at_ppu s hlow hhigh, hstatus, ← Ppu.statusByte_eq]
  rfl

/-- Settles O36: the store, and the one request of the period. -/
theorem ctrlWrite : Obligations.CtrlWrite := by
  intro a v s hlow hhigh hreg
  have hctrl : ppuRegOf a = .ctrl := by simp [ppuRegOf, hreg]
  rw [busWrite_at_ppu v s hlow hhigh, hctrl]
  exact writeCtrl_eq v s

/-- Settles O37: the register that the address names decides the access. -/
theorem maskAndOamPorts : Obligations.MaskAndOamPorts := by
  intro a v s hlow hhigh
  rw [busRead_at_ppu s hlow hhigh, busWrite_at_ppu v s hlow hhigh]
  refine ⟨fun hreg => ?mask, fun hreg => ?status, fun hreg => ?oamAddr, fun hreg => ?oamData, fun hreg => ?writeOnly⟩
  case mask => simp only [ppuRegOf, hreg, ppuRegWrite]
  case status => simp only [ppuRegOf, hreg, ppuRegWrite]
  case oamAddr => simp only [ppuRegOf, hreg, ppuRegWrite]
  case oamData =>
    have hnext : s.ppu.oamAddr + 1 = BitVec.ofNat 8 (s.ppu.oamAddr.toNat + 1) := byte_add_ofNat _ 1
    simp only [ppuRegOf, hreg, ppuRegWrite, ppuRegRead, writeOamData, readOamData, hnext, and_self]
  case writeOnly =>
    simp only [List.mem_cons, List.not_mem_nil, or_false] at hreg
    obtain hreg | hreg | hreg | hreg | hreg := hreg <;> simp only [ppuRegOf, hreg, ppuRegRead]

/-- Settles O38: the toggle decides which half of the pair a write is. -/
theorem scrollAndAddressPairs : Obligations.ScrollAndAddressPairs := by
  intro a v s hlow hhigh
  rw [busWrite_at_ppu v s hlow hhigh]
  refine ⟨fun hreg => ?scroll, fun hreg => ?addr⟩
  case scroll =>
    simp only [ppuRegOf, hreg, ppuRegWrite, writeScroll]
    split_ifs <;> rfl
  case addr =>
    simp only [ppuRegOf, hreg, ppuRegWrite]
    exact writeAddr_eq v s

end Sys2Proof.Machine
end

section
/-! PROOFS of the family 47_ppu_rendering.md: the pixel of a sprite and the choice among the sprites (R255 to R258), the
background pixel (R251 to R254), the sprite-zero hit (R259) and the effect of rendering a pixel (R250, R260). -/

namespace Sys2Proof.Machine

/-! ### One sprite -/

/-- The pattern address of a sprite row, with the row pair of a tall sprite written as a difference (R257). -/
theorem spritePatternAddr_eq (s : State) (tile dy : Nat) :
    spritePatternAddr s tile dy =
      if s.ppu.ctrl.getLsbD 5 = true then 0x1000 * (tile % 2) + (tile - tile % 2 + dy / 8) * 16 + dy % 8
      else 0x1000 * (s.ppu.ctrl.toNat / 8 % 2) + tile * 16 + dy := by
  have heven : tile / 2 * 2 = tile - tile % 2 := by omega
  simp only [spritePatternAddr, toNat_getLsbD, heven, Nat.reducePow]

/-- The box of a sprite, in naturals (R256). -/
theorem inSpriteBox_iff (s : State) (q : Sprite) (x y : Nat) :
    inSpriteBox s q x y = true ↔
      q.x ≤ x ∧ x ≤ q.x + 7 ∧ spriteTop s q ≤ y ∧ y ≤ spriteTop s q + spriteHeight s - 1 := by
  simp only [inSpriteBox, Bool.and_eq_true, decide_eq_true_eq, and_assoc]

/-- A sprite has a pixel where the position lies in its box and its pattern is opaque (R258). -/
theorem spriteAt_eq_ite (s : State) (x y n : Nat) :
    spriteAt s x y n =
      let q := spriteOf s n
      if inSpriteBox s q x y = true ∧ spritePixelValue s q x y ≠ 0 then
        some ⟨spritePixelValue s q x y, q.palette, q.front, n⟩
      else none := by
  simp only [spriteAt, ite_and, ite_not]

/-- What a sprite's pixel holds: its own index, and a value that is not transparent. -/
theorem index_and_pix_of_spriteAt {s : State} {x y n : Nat} {hit : SpriteHit} (h : spriteAt s x y n = some hit) :
    hit.index = n ∧ hit.pix ≠ 0 := by
  simp only [spriteAt_eq_ite] at h
  obtain ⟨⟨-, hopaque⟩, ⟨⟩⟩ := Option.ite_none_right_eq_some.mp h
  exact ⟨rfl, hopaque⟩

/-! ### The choice among the sprites -/

/-- No sprite is found exactly when none of those searched has a pixel. -/
theorem firstSprite_eq_none_iff (s : State) (x y count n : Nat) :
    firstSprite s x y count n = none ↔ ∀ m, n ≤ m → m < n + count → spriteAt s x y m = none := by
  induction count generalizing n with
  | zero => exact ⟨fun _ m hlow hhigh => by omega, fun _ => rfl⟩
  | succ count ih =>
    rw [firstSprite]
    cases hn : spriteAt s x y n with
    | some first => exact ⟨nofun, fun h => by simp [h n le_rfl (by omega)] at hn⟩
    | none =>
      rw [ih]
      refine ⟨fun h m hlow hhigh => ?_, fun h m hlow hhigh => h m (by omega) (by omega)⟩
      obtain rfl | hlater := hlow.eq_or_lt
      · exact hn
      · exact h m hlater (by omega)

/-- The sprite found is the lowest of those searched that has a pixel (R258). -/
theorem firstSprite_eq_some_iff (s : State) (x y count n : Nat) (hit : SpriteHit) :
    firstSprite s x y count n = some hit ↔
      n ≤ hit.index ∧ hit.index < n + count ∧ spriteAt s x y hit.index = some hit ∧
        ∀ m, n ≤ m → m < hit.index → spriteAt s x y m = none := by
  induction count generalizing n with
  | zero => exact ⟨fun h => by simp [firstSprite] at h, fun ⟨hlow, hhigh, _⟩ => by omega⟩
  | succ count ih =>
    rw [firstSprite]
    cases hn : spriteAt s x y n with
    | some first =>
      constructor
      · rintro ⟨⟩
        obtain ⟨hindex, -⟩ := index_and_pix_of_spriteAt hn
        exact ⟨by omega, by omega, hindex ▸ hn, fun m hlow hhigh => by omega⟩
      · rintro ⟨hlow, -, hhit, hbefore⟩
        obtain heq | hlater := hlow.eq_or_lt
        · rw [← hn, heq, hhit]
        · simp [hbefore n le_rfl hlater] at hn
    | none =>
      rw [ih]
      constructor
      · rintro ⟨hlow, hhigh, hhit, hbefore⟩
        refine ⟨by omega, by omega, hhit, fun m hm hmhit => ?_⟩
        obtain rfl | hlater := hm.eq_or_lt
        · exact hn
        · exact hbefore m hlater hmhit
      · rintro ⟨hlow, hhigh, hhit, hbefore⟩
        have hne : n ≠ hit.index := fun heq => by simp [← heq, hn] at hhit
        exact ⟨by omega, by omega, hhit, fun m hm => hbefore m (by omega)⟩

/-- The sprite shown is the lowest of all 64 that has a pixel, if sprites are shown (R258). -/
theorem spritePixel_eq_some_iff (s : State) (x y : Nat) (hit : SpriteHit) :
    spritePixel s x y = some hit ↔
      s.ppu.showSpr = true ∧ hit.index < 64 ∧ spriteAt s x y hit.index = some hit ∧
        ∀ n, n < hit.index → spriteAt s x y n = none := by
  simp [spritePixel, firstSprite_eq_some_iff]

/-- No sprite is shown when sprites are off or none has a pixel (R258). -/
theorem spritePixel_eq_none_iff (s : State) (x y : Nat) :
    spritePixel s x y = none ↔ s.ppu.showSpr = false ∨ ∀ n, n < 64 → spriteAt s x y n = none := by
  simp [spritePixel, firstSprite_eq_none_iff, Decidable.imp_iff_not_or]

/-! ### The background -/

/-- The two bits of the attribute byte that a tile's place in its block of four by four picks (R253). -/
theorem attributeShift_eq (row col : Nat) :
    4 * (row / 2 % 2) + 2 * (col / 2 % 2) = (if row % 4 < 2 then 0 else 4) + (if col % 4 < 2 then 0 else 2) := by
  split_ifs <;> omega

/-- An opaque background pixel says that the background is shown (R252). -/
theorem showBg_of_opaque {s : State} {x y : Nat} (h : (backgroundPixel s x y).1 ≠ 0) : s.ppu.showBg = true := by
  by_contra hoff
  simp [backgroundPixel, hoff] at h

/-! ### The output -/

/-- Sprite 0 wins wherever it has a pixel, for no sprite is before it (R259). -/
theorem exists_spritePixel_index_zero_iff (s : State) (x y : Nat) :
    (∃ hit, spritePixel s x y = some hit ∧ hit.index = 0) ↔
      s.ppu.showSpr = true ∧ (spriteAt s x y 0).isSome = true := by
  rw [Option.isSome_iff_exists]
  constructor
  · rintro ⟨hit, hhit, hzero⟩
    obtain ⟨hshown, -, hat, -⟩ := (spritePixel_eq_some_iff s x y hit).mp hhit
    exact ⟨hshown, hit, hzero ▸ hat⟩
  · rintro ⟨hshown, hit, hat⟩
    obtain ⟨hzero, -⟩ := index_and_pix_of_spriteAt hat
    exact ⟨hit, (spritePixel_eq_some_iff s x y hit).mpr ⟨hshown, by omega, hzero ▸ hat, fun n hn => by omega⟩, hzero⟩

/-- The sprite that is shown at a pixel is opaque there (R258). -/
theorem spritePixel_opaque {s : State} {x y : Nat} {hit : SpriteHit} (h : spritePixel s x y = some hit) :
    hit.pix ≠ 0 := by
  obtain ⟨-, -, hat, -⟩ := (spritePixel_eq_some_iff s x y hit).mp h
  exact (index_and_pix_of_spriteAt hat).2

/-- The condition of the sprite-zero hit, in terms of sprite 0 alone (R259). -/
theorem spriteZeroHit_iff (s : State) (x y : Nat) :
    spriteZeroHit s x (backgroundPixel s x y).1 (spritePixel s x y) = true ↔
      s.ppu.showSpr = true ∧ (spriteAt s x y 0).isSome = true ∧ (backgroundPixel s x y).1 ≠ 0 ∧ x ≠ 255 := by
  rw [← and_assoc, ← exists_spritePixel_index_zero_iff]
  cases h : spritePixel s x y with
  | none => simp [spriteZeroHit]
  | some hit =>
    have hshown := ((spritePixel_eq_some_iff s x y hit).mp h).1
    have hopaque := spritePixel_opaque h
    by_cases hbg : (backgroundPixel s x y).1 = 0
    · simp [spriteZeroHit, hbg]
    · simp [spriteZeroHit, hshown, hopaque, hbg, showBg_of_opaque hbg]

/-- Only the entry of its own pixel changes in the frame buffer (R250, R262). -/
theorem renderPixel_framebuffer_read {x y : Nat} {s : State} (hwf : Memory.wf 61440 s.ppu.framebuffer = true) (k : Nat) :
    Memory.read (renderPixel x y s).ppu.framebuffer k =
      if k = 256 * y + x then finalColour s (backgroundPixel s x y) (spritePixel s x y)
      else Memory.read s.ppu.framebuffer k := by
  split_ifs with hk
  · rw [hk]
    exact Memory.read_write_same hwf
  · exact Memory.read_write_other hk hwf

theorem colourAddr_none (bg : Nat × Nat) :
    colourAddr bg none = if bg.1 = 0 then 0x3F00 else 0x3F00 + 4 * bg.2 + bg.1 := by
  simp only [colourAddr, ne_eq, ite_not]

/-- An opaque sprite is shown over a transparent background, and over any background when it is in front (R260). -/
theorem colourAddr_some (bg : Nat × Nat) {hit : SpriteHit} (hopaque : hit.pix ≠ 0) :
    colourAddr bg (some hit) =
      if bg.1 = 0 ∨ hit.front = true then 0x3F10 + 4 * hit.palette + hit.pix else 0x3F00 + 4 * bg.2 + bg.1 := by
  by_cases hbg : bg.1 = 0 <;> simp [colourAddr, hopaque, hbg]

/-! ### The obligations -/

/-- Settles O47: one sprite's box and pattern in the arithmetic of the rules, and the search for the lowest index. -/
theorem lowestSpriteWins : Obligations.LowestSpriteWins := by
  refine ⟨fun s x y n => ?_, fun s x y hit => ⟨spritePixel_eq_some_iff s x y hit, spritePixel_eq_none_iff s x y⟩⟩
  rw [spriteAt_eq_ite]
  simp only [inSpriteBox_iff, spritePixelValue, patternPixel_eq, spritePatternAddr_eq, and_assoc]
  rfl

/-- Settles O48: the background in the arithmetic of the rules, the one frame buffer entry written, and the hit in terms
of sprite 0, which wins wherever it has a pixel. -/
theorem renderPixelEffect : Obligations.RenderPixelEffect := by
  refine ⟨fun s x y => ?background, fun s x y _ _ hwf => ⟨rfl, fun k => ?colour, ?hit⟩⟩
  case background =>
    have hrow : scrolledY s y % 240 % 8 = scrolledY s y % 8 := Nat.mod_mod_of_dvd _ (by decide)
    simp only [backgroundPixel, backgroundTile, patternPixel_eq, attributeShift_eq, hrow]
    simp only [scrolledX, scrolledY, Ppu.showBg, toNat_getLsbD, Nat.reducePow, Nat.div_one, Nat.mul_one, Nat.mul_zero,
      Nat.add_zero]
  case colour =>
    rw [renderPixel_framebuffer_read hwf, finalColour]
    cases h : spritePixel s x y with
    | none => simp only [colourAddr_none]
    | some hit => simp only [colourAddr_some _ (spritePixel_opaque h)]
  case hit =>
    rw [← spriteZeroHit_iff, ← Bool.or_eq_true]
    rfl

end Sys2Proof.Machine
end

section
/-! PROOFS of the family 60_exceptions.md: the two CPU actions that are no instruction, the stall and the NMI entry (R305,
R306; 70_reset_and_hazards.md R326). -/

namespace Sys2Proof.Machine

/-! ### The stall and the NMI entry -/

/-- Setting InterruptDisable is setting bit 2 of `P` (10_state.md R15). -/
theorem putFlag_interruptDisable_true (p : Byte) : putFlag .interruptDisable true p = p ||| 0x04 := rfl

/-- An NMI entry is an interrupt entry through 0xFFFA, which lies in PRG-ROM (R305). -/
theorem nmiEntry_eq (s : State) :
    let vector := fun a : Addr => (Memory.read s.cart.prg (s.cart.prgIndex a)).toNat
    nmiEntry s =
      { s with
        nmiPending := false
        ram :=
          Memory.write
            (Memory.write (Memory.write s.ram (0x100 + s.sp.toNat) (BitVec.ofNat 8 (s.pc.toNat / 256)))
              (0x100 + (s.sp - 1).toNat) (BitVec.ofNat 8 (s.pc.toNat % 256)))
            (0x100 + (s.sp - 2).toNat) (pushedByNmi s.p)
        sp := s.sp - 3
        p := s.p ||| 0x04
        pc := BitVec.ofNat 16 (256 * vector 0xFFFB + vector 0xFFFA)
        cpuCycles := s.cpuCycles + s.params.nmiCycles } := by
  have hlow : 0x8000 ≤ (0xFFFA : Addr).toNat := by decide
  have hhigh : 0x8000 ≤ (0xFFFA + 1 : Addr).toNat := by decide
  have hnext : (0xFFFA + 1 : Addr) = 0xFFFB := rfl
  simp only [nmiEntry, charge, takeInterrupt_eq _ _ hlow hhigh, hnext, word16_eq, hiByte_eq, loByte_eq,
    putFlag_interruptDisable_true]

/-! ### The order of the actions -/

/-- An outstanding stall is the first action, whether or not an NMI is pending (R306). -/
theorem cpuAction_of_stall {s : State} (hstall : s.stallCycles ≠ 0) : cpuAction s = .next (serveStall s) :=
  if_pos hstall

/-- With no stall outstanding a pending NMI is the action (R306). -/
theorem cpuAction_of_nmi {s : State} (hstall : s.stallCycles = 0) (hnmi : s.nmiPending = true) :
    cpuAction s = .next (nmiEntry s) := by
  simp only [cpuAction, hstall, hnmi, ne_eq, not_true_eq_false, if_false, if_true]

/-- An action of `n` cycles is followed by `3 * n` PPU clocks (R326). -/
theorem step_of_action {s t : State} {n : Nat} (hfault : s.fault = none) (hcart : s.cart.inRange = true)
    (haction : cpuAction s = .next t) (hcycles : t.cpuCycles = s.cpuCycles + n) :
    step s = .next (ppuTicks (3 * n) t) := by
  have helapsed : t.cpuCycles - s.cpuCycles = n := by omega
  rw [step_of_running hfault hcart, haction, afterAction, catchUp, helapsed]
  rfl

/-! ### The obligation -/

/-- Settles O57: each of the two actions is the first that applies, and its cycles give the PPU's clocks. -/
theorem stallThenNmi : Obligations.StallThenNmi := by
  refine fun s hfault hcart => ⟨fun hstall => ?stall, fun hstall hnmi => ?nmi⟩
  case stall => exact step_of_action hfault hcart (cpuAction_of_stall hstall) rfl
  case nmi =>
    have haction := cpuAction_of_nmi hstall hnmi
    rw [nmiEntry_eq] at haction
    exact step_of_action hfault hcart haction rfl

end Sys2Proof.Machine
end

section
/-! PROOFS of the family 70_reset_and_hazards.md: what a reset leaves in every piece of state (R320 to R322). -/

namespace Sys2Proof.Machine

/-! ### The reset-state banking -/

/-- The reset state of mapper 1 is PRG mode 3: the window at 0xC000 shows the last bank (R282, R322). -/
theorem Mmc1.reset_prgOff1 (m : Mirroring) (ram : Memory 8) (banks : Nat) :
    (Mmc1.reset m ram).prgOff1 banks = 16384 * (banks - 1) := by
  have hmode : (Mmc1.reset m ram).prgMode = 3 := by simp [Mmc1.prgMode, Mmc1.reset]
  simp only [Mmc1.prgOff1, hmode]

/-- The window at 0xC000 after a reset (R322): mirrored PRG-ROM on mappers 0 and 3, the last bank on mappers 1 and 2. -/
theorem Cartridge.afterReset_prgIndex (c : Cartridge) (p : Params) {a : Addr} (h : 0xC000 ≤ a.toNat) :
    (c.afterReset p).prgIndex a =
      if c.mapper.number = 0 ∨ c.mapper.number = 3 then (a.toNat - 0x8000) % (16384 * c.prgBanks)
      else 16384 * (c.prgBanks - 1) + a.toNat % 0x4000 := by
  have hwindow : ¬ a.toNat ≤ 0xBFFF := by omega
  unfold Cartridge.prgIndex Cartridge.afterReset Cartridge.resetMapper
  cases c.mapper with
  | nrom | cnrom _ => simp [Mapper.number]
  | mmc1 _ => simp [Mapper.number, hwindow, Mmc1.reset_prgOff1]
  | unrom _ => simp [Mapper.number, hwindow]

/-! ### The two bytes of the reset vector -/

/-- Mirroring does not part the two vector bytes: the size of PRG-ROM is a multiple of 4, and so is the low byte's offset. -/
theorem vectorOffset_succ_mod (banks : Nat) : 0x7FFD % (16384 * banks) = 0x7FFC % (16384 * banks) + 1 := by
  rcases Nat.eq_zero_or_pos banks with rfl | hbanks
  · rfl
  · have hlt : 0x7FFC % (16384 * banks) < 16384 * banks := Nat.mod_lt _ (by omega)
    have hfour : 0x7FFC % (16384 * banks) % 4 = 0 :=
      Nat.mod_mod_of_dvd _ (Dvd.dvd.mul_right (by decide : 4 ∣ 16384) banks)
    calc 0x7FFD % (16384 * banks)
        = (0x7FFC % (16384 * banks) + 1) % (16384 * banks) := (Nat.mod_add_mod 0x7FFC _ 1).symm
      _ = 0x7FFC % (16384 * banks) + 1 := Nat.mod_eq_of_lt (by omega)

/-- Where the low byte of the reset vector lies. -/
theorem Cartridge.afterReset_prgIndex_vector (c : Cartridge) (p : Params) :
    (c.afterReset p).prgIndex 0xFFFC =
      if c.mapper.number = 0 ∨ c.mapper.number = 3 then 0x7FFC % (16384 * c.prgBanks)
      else 16384 * (c.prgBanks - 1) + 0x3FFC :=
  c.afterReset_prgIndex p (by decide)

/-- The high byte of the reset vector lies right after the low byte, on every mapper. -/
theorem Cartridge.afterReset_prgIndex_vector_succ (c : Cartridge) (p : Params) :
    (c.afterReset p).prgIndex 0xFFFD = (c.afterReset p).prgIndex 0xFFFC + 1 := by
  rw [c.afterReset_prgIndex p (by decide), c.afterReset_prgIndex_vector]
  split
  · exact vectorOffset_succ_mod c.prgBanks
  · exact (Nat.add_assoc _ 0x3FFC 1).symm

/-! ### The obligation -/

/-- Settles O52: `PC` comes from the two vector bytes, every other piece from `initialState` and `Cartridge.afterReset`. -/
theorem resetValues : Obligations.ResetValues := by
  intro p c
  dsimp only
  rw [machineReset_eq, word16_eq, c.afterReset_prgIndex_vector_succ, c.afterReset_prgIndex_vector]
  rfl

end Sys2Proof.Machine
end

section
/-! PROOFS of the family 30_encoding.md: the decoder inverts the encoder (R90 to R92, R96), and sample words of the opcode
map (R93). -/

namespace Sys2Proof

/-! ### Lengths (R92) -/

theorem Operand.length_bytes (o : Operand) : o.length = o.bytes.length + 1 := by
  cases o <;> rfl

theorem Instr.length_encode (i : Instr) : (encode i).length = i.length := by
  rw [encode, List.length_cons, Instr.length, Operand.length_bytes]

theorem Instr.length_bounds (i : Instr) : 1 ≤ i.length ∧ i.length ≤ 3 := by
  rw [Instr.length]
  cases i.operand <;> simp [Operand.length]

/-! ### Lookup in the opcode map -/

/-- Two functions that agree on every entry of the map agree on the entry that is decoded. -/
theorem instrOf_map_eq {α : Type} (f g : Instr → α) (op b1 b2 : Byte)
    (hmap : (opcodeMap b1 b2).map (List.map f) = (opcodeMap b1 b2).map (List.map g)) (hill : f (.ill op) = g (.ill op)) :
    f (instrOf op b1 b2) = g (instrOf op b1 b2) := by
  have lookup (k : Instr → α) : k (instrOf op b1 b2) =
      (((opcodeMap b1 b2).map (List.map k)).getD (op.toNat / 16) []).getD (op.toNat % 16) (k (.ill op)) := by
    rw [← List.map_nil (f := k), List.getD_map, List.getD_map]
    rfl
  rw [lookup f, lookup g, hmap, hill]

/-- The operand bytes of a decoded instruction are as many of the bytes after the opcode as its format has. -/
theorem instrOf_operand_bytes (op b1 b2 : Byte) :
    (instrOf op b1 b2).operand.bytes = [b1, b2].take ((instrOf op b1 b2).length - 1) :=
  instrOf_map_eq (fun i => i.operand.bytes) (fun i => [b1, b2].take (i.length - 1)) op b1 b2 rfl rfl

/-- The opcode alone fixes the length (R90). -/
theorem instrOf_length (op b1 b2 : Byte) : (instrOf op b1 b2).length = operandCount op + 1 := by
  have hpos := (instrOf op 0 0).length_bounds
  have hlen : (instrOf op b1 b2).length = (instrOf op 0 0).length := instrOf_congr Instr.length op rfl
  rw [hlen, operandCount]
  omega

/-! ### Well-formedness -/

/-- The map's `ill` entries hold undefined opcodes only (R94). -/
theorem instrOf_wellFormed (op b1 b2 : Byte) : (instrOf op b1 b2).wellFormed = true := by
  by_cases hill : instrOf op b1 b2 = .ill op
  · rw [hill]
    exact (instrOf_eq_ill_iff op b1 b2).mp hill
  · have hdefined : (instrOf op b1 b2).mnemonic ≠ .ill := fun h => hill ((instrOf_eq_ill_iff_mnemonic op b1 b2).mpr h)
    cases hi : instrOf op b1 b2
    case ill => simp [hi, Instr.mnemonic] at hdefined
    all_goals rfl

/-! ### Decoding an encoding -/

/-- The map holds each well-formed instruction at its opcode, whatever bytes follow its own. -/
theorem instrOf_encode {i : Instr} (h : i.wellFormed = true) (rest : List Byte) :
    instrOf i.opcode ((i.operand.bytes ++ rest).getD 0 0) ((i.operand.bytes ++ rest).getD 1 0) = i := by
  cases i
  case ill op => exact (instrOf_eq_ill_iff op _ _).mpr h
  all_goals dsimp only [Instr.opcode]; rfl

theorem operandCount_opcode {i : Instr} (h : i.wellFormed = true) : operandCount i.opcode = i.operand.bytes.length := by
  have hlen := instrOf_length i.opcode ((i.operand.bytes ++ []).getD 0 0) ((i.operand.bytes ++ []).getD 1 0)
  rw [instrOf_encode h, Instr.length, Operand.length_bytes] at hlen
  omega

/-- With enough bytes after the opcode, decoding looks the opcode up and drops the operand bytes (R96). -/
theorem decode_cons {op : Byte} {rest : List Byte} (h : operandCount op ≤ rest.length) :
    decode (op :: rest) = .ok (instrOf op (rest.getD 0 0) (rest.getD 1 0), rest.drop (operandCount op)) := by
  rw [decode, if_neg (by omega)]

/-! ### The obligations -/

/-- Settles O1: the opcode finds the instruction in the map and fixes how many bytes are its own. -/
theorem decodeOfEncode : Obligations.DecodeOfEncode := by
  intro i rest h
  have hcount := operandCount_opcode h
  rw [encode, List.cons_append, decode_cons (by simp [hcount]), instrOf_encode h, hcount, List.drop_left]

/-- Settles O2: the three bytes are the opcode and the most operand bytes that a format can have. -/
theorem decodeIsTotal : Obligations.DecodeIsTotal := by
  intro bytes hbytes
  match bytes, hbytes with
  | op :: b1 :: b2 :: tail, _ =>
    have hlen := instrOf_length op b1 b2
    have hbounds := (instrOf op b1 b2).length_bounds
    refine ⟨instrOf op b1 b2, (b1 :: b2 :: tail).drop (operandCount op), decode_cons (by simp; omega),
      instrOf_wellFormed op b1 b2, ?_, Instr.length_encode _, hbounds⟩
    have htake : [b1, b2].take (operandCount op) = (b1 :: b2 :: tail).take (operandCount op) := by
      rw [show b1 :: b2 :: tail = [b1, b2] ++ tail from rfl, List.take_append_of_le_length (by simp; omega)]
    rw [encode, instrOf_opcode, instrOf_operand_bytes, hlen, Nat.add_sub_cancel, htake, List.cons_append,
      List.take_append_drop]

/-- Settles O3: each word is looked up in the map. -/
theorem sampleWords : Obligations.SampleWords := by
  refine ⟨?_, ?_, ?_, ?_, ?_, ?_, ?_, ?_, ?_, ?_, ?_, ?_⟩ <;> rfl

end Sys2Proof
end

section
/-! PROOFS of the family 40_addressing_modes.md: the effective addresses of the modes (R112 to R123), the operand fetch
(R125) and the result write (R126); and the nametable mirrors of 20_memory.md R67. -/

namespace Sys2Proof.Machine

/-! ### Modes without a pointer -/

theorem zeroPage_eq (b : Byte) : zeroPage b = BitVec.ofNat 16 b.toNat := by
  apply BitVec.eq_of_toNat_eq
  have := b.isLt
  rw [zeroPage_toNat, BitVec.toNat_ofNat]
  omega

/-- An index is added to a zero-page address within the page (R116, R117). -/
theorem zeroPage_add (b index : Byte) : zeroPage (b + index) = BitVec.ofNat 16 ((b.toNat + index.toNat) % 256) := by
  rw [zeroPage_eq, BitVec.toNat_add]

/-- An index is added to a 16-bit base modulo 65536, and the page is crossed when the high byte changes (R119, R120). -/
theorem indexed_word16 (b1 b2 index : Byte) :
    let ea := (256 * b2.toNat + b1.toNat + index.toNat) % 65536
    indexed (word16 b2 b1) index = ⟨BitVec.ofNat 16 ea, decide (ea / 256 ≠ b2.toNat)⟩ := by
  have hpage : (256 * b2.toNat + b1.toNat) / 256 = b2.toNat := by
    have := b1.isLt
    omega
  rw [indexed_eq, word16_toNat, hpage]

theorem operandByte_of_memory {o : Operand} (hacc : o ≠ .acc) (himm : ∀ b, o ≠ .imm b) (ea : Addr) (s : State) :
    operandByte o ea s = busRead ea s := by
  cases o
  case acc => exact absurd rfl hacc
  case imm b => exact absurd rfl (himm b)
  all_goals rfl

/-! ### Modes with a pointer -/

/-- The two bytes of a pointer in the zero page, the second at the next address of the page (R122, R123). -/
theorem readPair_pointer (p : Byte) (s : State) :
    readPair (zeroPage p) (zeroPage (p + 1)) s =
      (BitVec.ofNat 16
        (256 * (Memory.read s.ram ((p.toNat + 1) % 256)).toNat + (Memory.read s.ram p.toNat).toNat), s) := by
  rw [readPair_zeroPage, word16_eq, BitVec.toNat_add]
  rfl

/-- The second byte of an indirect jump's pointer stays in the page of the first (R121). -/
theorem indirectHigh_eq (b1 b2 : Byte) :
    indirectHigh b1 b2 =
      BitVec.ofNat 16 (if b1 = 0xFF then 256 * b2.toNat else 256 * b2.toNat + b1.toNat + 1) := by
  unfold indirectHigh
  split_ifs
  · exact word16_eq b2 0x00
  · rw [word16_eq, BitVec.ofNat_add _ 1]
    rfl

/-- A read of RAM at an address given as a number. -/
theorem busRead_ofNat_ram {n : Nat} (s : State) (h : n ≤ 0x1FFF) :
    busRead (BitVec.ofNat 16 n) s = (Memory.read s.ram (n % 2048), s) := by
  have hn : (BitVec.ofNat 16 n).toNat = n := by
    rw [BitVec.toNat_ofNat]
    omega
  rw [busRead_at_ram s (by omega), hn]

/-! ### Nametables -/

/-- The base of a nametable in the arithmetic of R67: which of the four tables share a base. -/
theorem nametableBase_eq (m : Mirroring) {table : Nat} (h : table < 4) :
    nametableBase m table =
      0x2000 +
        (match m with
         | .horizontal => 0x800 * (table / 2)
         | .vertical => 0x400 * (table % 2)
         | .oneLo => 0
         | .oneHi => 0x400) := by
  cases m <;> simp only [nametableBase] <;> split_ifs <;> omega

/-- The base of a nametable is the base of the table that it lies in. -/
theorem nametableBase_idem (m : Mirroring) {table : Nat} (h : table < 4) :
    nametableBase m ((nametableBase m table - 0x2000) / 0x400) = nametableBase m table := by
  cases m <;> interval_cases table <;> rfl

/-- A nametable base is the start of one of the first three tables. -/
theorem nametableBase_bounds (m : Mirroring) {table : Nat} (h : table < 4) :
    0x2000 ≤ nametableBase m table ∧ nametableBase m table ≤ 0x2800 ∧ nametableBase m table % 0x400 = 0 := by
  cases m <;> interval_cases table <;> decide

/-- What lies behind an address of the nametables (20_memory.md R67): the offset in its table is kept. -/
theorem mirrorAddr_nametable_toNat (m : Mirroring) {a : PpuAddr} (hlow : 0x2000 ≤ a.toNat) (hhigh : a.toNat ≤ 0x3EFF) :
    (mirrorAddr m a).toNat = nametableBase m ((a.toNat - 0x2000) % 0x1000 / 0x400) + a.toNat % 0x400 := by
  have hbase := (nametableBase_bounds m (show (a.toNat - 0x2000) % 0x1000 / 0x400 < 4 by omega)).2.1
  simp only [mirrorAddr, show ¬ a.toNat ≤ 0x1FFF by omega, hhigh, if_false, if_true, BitVec.toNat_ofNat]
  omega

theorem paletteIndex_idem : ∀ i < 32, paletteIndex (paletteIndex i) = paletteIndex i := by
  decide

/-- Mirroring reaches a cell that mirrors to itself. -/
theorem mirrorAddr_idem (m : Mirroring) (a : PpuAddr) : mirrorAddr m (mirrorAddr m a) = mirrorAddr m a := by
  rcases Nat.lt_or_ge a.toNat 0x2000 with hpattern | hlow
  · rw [mirrorAddr_pattern m (a := a) (by omega), mirrorAddr_pattern m (by omega)]
  apply BitVec.eq_of_toNat_eq
  rcases Nat.lt_or_ge a.toNat 0x3F00 with hhigh | hpalette
  · have htable : (a.toNat - 0x2000) % 0x1000 / 0x400 < 4 := by omega
    have hcell := mirrorAddr_nametable_toNat m hlow (by omega)
    have hidem := nametableBase_idem m htable
    obtain ⟨hmin, hmax, hmod⟩ := nametableBase_bounds m htable
    generalize nametableBase m ((a.toNat - 0x2000) % 0x1000 / 0x400) = base at hcell hidem hmin hmax hmod
    rw [mirrorAddr_nametable_toNat m (a := mirrorAddr m a) (by omega) (by omega),
      show ((mirrorAddr m a).toNat - 0x2000) % 0x1000 / 0x400 = (base - 0x2000) / 0x400 by omega, hidem]
    omega
  · have hindex : a.toNat % 32 < 32 := Nat.mod_lt _ (by omega)
    have hlt := paletteIndex_lt _ hindex
    have hcell := mirrorAddr_palette_toNat m hpalette
    rw [mirrorAddr_palette_toNat m (a := mirrorAddr m a) (by omega), hcell,
      show (0x3F00 + paletteIndex (a.toNat % 32)) % 32 = paletteIndex (a.toNat % 32) by omega,
      paletteIndex_idem _ hindex]

/-! ### The obligations -/

/-- Settles O5: the modes without a pointer are their definitions in the arithmetic of naturals. -/
theorem directModes : Obligations.DirectModes := by
  refine fun b1 b2 v ea o s => ⟨rfl, rfl, rfl, rfl, ?zp0, ?zpx, ?zpy, ?abs, ?abx, ?aby, rfl, rfl, ?fetch, rfl, ?write⟩
  case zp0 => rw [locate, zeroPage_eq]
  case zpx => rw [locate, zeroPage_add]
  case zpy => rw [locate, zeroPage_add]
  case abs => rw [locate, word16_eq]
  case abx => exact congrArg (·, s) (indexed_word16 b1 b2 s.x)
  case aby => exact congrArg (·, s) (indexed_word16 b1 b2 s.y)
  case fetch => exact fun hacc himm => operandByte_of_memory hacc himm ea s
  case write => exact fun hacc => writeBack_of_ne_acc hacc ea v s

/-- Settles O6: a pointer in the zero page is two RAM reads; the pointer of IND is two bus reads. -/
theorem pointerModes : Obligations.PointerModes := by
  refine fun b1 b2 s => ⟨?izx, ?izy, ?ind, ?indRam⟩
  case izx =>
    have hptr : (b1 + s.x).toNat = (b1.toNat + s.x.toNat) % 256 := BitVec.toNat_add ..
    simp only [locate, readPair_pointer, hptr]
  case izy =>
    simp only [locate, readPair_pointer, indexed_eq, BitVec.toNat_ofNat]
    have := (Memory.read s.ram ((b1.toNat + 1) % 256)).isLt
    have := (Memory.read s.ram b1.toNat).isLt
    rw [Nat.mod_eq_of_lt (show 256 * (Memory.read s.ram ((b1.toNat + 1) % 256)).toNat +
      (Memory.read s.ram b1.toNat).toNat < 2 ^ 16 by omega)]
  case ind => simp only [locate, readPair, word16_eq, indirectHigh_eq]
  case indRam =>
    intro hpage
    have := b1.isLt
    have hsecond : (if b1 = 0xFF then 256 * b2.toNat else 256 * b2.toNat + b1.toNat + 1) ≤ 0x1FFF := by
      split_ifs with hlast
      · omega
      · have : b1.toNat ≠ 255 := fun h => hlast (BitVec.eq_of_toNat_eq h)
        omega
    simp only [busRead_ofNat_ram s (show 256 * b2.toNat + b1.toNat ≤ 0x1FFF by omega), busRead_ofNat_ram s hsecond,
      and_self]

/-- Settles O40: the offset in the table is kept, and the base is one of the bases that map to themselves. -/
theorem nametableMirroring : Obligations.NametableMirroring := by
  refine fun a m => ⟨fun hlow hhigh => ?_, mirrorAddr_pattern m, mirrorAddr_idem m a⟩
  dsimp only
  rw [mirrorAddr_nametable_toNat m hlow hhigh, nametableBase_eq m (by omega)]
  cases m <;> dsimp only <;> omega

end Sys2Proof.Machine
end

section
/-! PROOFS of the family 20_memory.md: what lies behind an address on a read and on a write (R54 to R64), the controller
ports (R60, R61), OAM DMA (46_ppu_registers_and_timing.md R232), and the one NMI of a vblank period (46 R237). -/

namespace Sys2Proof.Machine

/-! ### Where a bus write goes -/

/-- A mapper claims no CPU write below 0x6000. -/
theorem Cartridge.claimed_address {c d : Cartridge} {a : Addr} {v : Byte} (h : c.cpuWrite a v = some d) :
    0x6000 ≤ a.toNat := by
  by_contra hlow
  rw [c.cpuWrite_low v (by omega)] at h
  cases h

theorem busWrite_of_claimed {a : Addr} {v : Byte} {s : State} {c : Cartridge} (h : s.cart.cpuWrite a v = some c) :
    busWrite a v s = { s with cart := c } := by
  simp only [busWrite, h]

/-- A write of 0x4014 is an OAM DMA (R59). -/
theorem busWrite_at_dma (v : Byte) (s : State) : busWrite 0x4014 v s = oamDma v s := by
  have hclaim : s.cart.cpuWrite 0x4014 v = none := s.cart.cpuWrite_low v (by decide)
  simp only [busWrite, hclaim]
  rfl

/-- A write of 0x4016 is the controllers' strobe (R61). -/
theorem busWrite_at_strobe (v : Byte) (s : State) : busWrite 0x4016 v s = controllerWrite v s := by
  have hclaim : s.cart.cpuWrite 0x4016 v = none := s.cart.cpuWrite_low v (by decide)
  simp only [busWrite, hclaim]
  rfl

/-- Where a bus write goes (R55). -/
theorem busWrite_cases (a : Addr) (v : Byte) (s : State) :
    (∃ c, 0x6000 ≤ a.toNat ∧ s.cart.cpuWrite a v = some c ∧ busWrite a v s = { s with cart := c }) ∨
    (a.toNat ≤ 0x1FFF ∧ busWrite a v s = { s with ram := Memory.write s.ram (a.toNat % 0x800) v }) ∨
    (0x2000 ≤ a.toNat ∧ a.toNat ≤ 0x3FFF ∧ busWrite a v s = ppuRegWrite (ppuRegOf a) v s) ∨
    (a.toNat = 0x4014 ∧ busWrite a v s = oamDma v s) ∨
    (a.toNat = 0x4016 ∧ busWrite a v s = controllerWrite v s) ∨
    (0x4000 ≤ a.toNat ∧ busWrite a v s = s) := by
  cases hclaim : s.cart.cpuWrite a v with
  | some c => exact .inl ⟨c, Cartridge.claimed_address hclaim, rfl, busWrite_of_claimed hclaim⟩
  | none =>
    refine .inr ?_
    by_cases hram : a.toNat ≤ 0x1FFF
    · exact .inl ⟨hram, busWrite_at_ram v s hram⟩
    by_cases hppu : a.toNat ≤ 0x3FFF
    · exact .inr (.inl ⟨by omega, hppu, busWrite_at_ppu v s (by omega) hppu⟩)
    by_cases hdma : a.toNat = 0x4014
    · obtain rfl : a = 0x4014 := BitVec.eq_of_toNat_eq hdma
      exact .inr (.inr (.inl ⟨hdma, busWrite_at_dma v s⟩))
    by_cases hstrobe : a.toNat = 0x4016
    · obtain rfl : a = 0x4016 := BitVec.eq_of_toNat_eq hstrobe
      exact .inr (.inr (.inr (.inl ⟨hstrobe, busWrite_at_strobe v s⟩)))
    · exact .inr (.inr (.inr (.inr ⟨by omega, busWrite_of_unclaimed hclaim (by omega) hdma hstrobe⟩)))

/-- A write of a PPU register changes at most the PPU, CHR-RAM and the NMI request; it does not move the PPU, and once the latch
is set, it changes neither the latch nor the request. -/
theorem ppuRegWrite_frame (r : PpuReg) (v : Byte) (s : State) :
    ∃ (nmi : Bool) (ppu : Ppu) (chr : Memory 8),
      ppuRegWrite r v s = { s with nmiPending := nmi, ppu := ppu, cart := { s.cart with chr := chr } } ∧
      (s.cart.chrIsRam = false → chr = s.cart.chr) ∧
      (s.ppu.nmiFired = true → ppu.nmiFired = true ∧ nmi = s.nmiPending) ∧
      ppu.pixelX = s.ppu.pixelX ∧ ppu.pixelY = s.ppu.pixelY ∧ ppu.frameCount = s.ppu.frameCount := by
  cases r <;> simp only [ppuRegWrite]
  case ctrl =>
    rw [writeCtrl_eq]
    exact ⟨_, _, s.cart.chr, rfl, fun _ => rfl, fun h => by simp [h], rfl, rfl, rfl⟩
  case scroll =>
    unfold writeScroll
    split_ifs <;> exact ⟨s.nmiPending, _, s.cart.chr, rfl, fun _ => rfl, fun h => ⟨h, rfl⟩, rfl, rfl, rfl⟩
  case addr =>
    unfold writeAddr
    split_ifs <;> exact ⟨s.nmiPending, _, s.cart.chr, rfl, fun _ => rfl, fun h => ⟨h, rfl⟩, rfl, rfl, rfl⟩
  case data =>
    unfold writeData ppuWrite
    split
    · next c hclaim =>
      obtain ⟨rfl, -, hram⟩ := Cartridge.ppuWrite_frame hclaim
      exact ⟨s.nmiPending, _, _, rfl, fun h => by simp [h] at hram, fun h => ⟨h, rfl⟩, rfl, rfl, rfl⟩
    · exact ⟨s.nmiPending, _, s.cart.chr, rfl, fun _ => rfl, fun h => ⟨h, rfl⟩, rfl, rfl, rfl⟩
  case mask | status | oamAddr | oamData =>
    exact ⟨s.nmiPending, _, s.cart.chr, rfl, fun _ => rfl, fun h => ⟨h, rfl⟩, rfl, rfl, rfl⟩

/-- An OAM DMA changes at most the fields that reads change and OAM, and adds its stall; `oam_addr` ends where it began. -/
theorem oamDma_frame (v : Byte) (s : State) :
    ∃ (vblank w : Bool) (buffer : Byte) (address : PpuAddr) (oam : Memory 8) (pads : Controllers),
      (vblank = true → s.ppu.vblank = true) ∧ (Memory.wf 256 s.ppu.oam = true → Memory.wf 256 oam = true) ∧
      oamDma v s =
        { s with
          ppu := { s.ppu with vblank := vblank, w := w, dataBuffer := buffer, vramAddr := address, oam := oam }
          pads := pads
          stallCycles := s.stallCycles + 513 } := by
  obtain ⟨vblank, w, buffer, address, oam, pads, hvblank, hoam, hcopy⟩ := oamCopy_frame v 256 s
  have hround : s.ppu.oamAddr + BitVec.ofNat 8 256 = s.ppu.oamAddr := BitVec.add_zero _
  refine ⟨vblank, w, buffer, address, oam, pads, hvblank, hoam, ?_⟩
  rw [oamDma, hcopy, hround]
  rfl

/-- The controllers' strobe changes nothing but the ports. -/
theorem controllerWrite_frame (v : Byte) (s : State) : ∃ pads, controllerWrite v s = { s with pads := pads } := by
  unfold controllerWrite
  split_ifs <;> exact ⟨_, rfl⟩

/-! ### Reads without effects -/

/-- Only two of the PPU registers change on a read (46 R221). -/
theorem ppuRegRead_state {r : PpuReg} (hstatus : r ≠ .status) (hdata : r ≠ .data) (s : State) :
    (ppuRegRead r s).2 = s := by
  cases r
  case status => exact absurd rfl hstatus
  case data => exact absurd rfl hdata
  all_goals rfl

theorem ppuRegOf_congr {a b : Addr} (h : a.toNat % 8 = b.toNat % 8) : ppuRegOf a = ppuRegOf b := by
  simp only [ppuRegOf, h]

/-- Which addresses reach the two registers with read effects (R57). -/
theorem mod_of_ppuRegOf (a : Addr) :
    (ppuRegOf a = .status → a.toNat % 8 = 2) ∧ (ppuRegOf a = .data → a.toNat % 8 = 7) := by
  have hlt : a.toNat % 8 < 8 := Nat.mod_lt _ (by decide)
  unfold ppuRegOf
  generalize a.toNat % 8 = n at hlt ⊢
  interval_cases n <;> decide

/-- A claimed read is the cartridge's byte and changes nothing (48 R295(b)). -/
theorem busRead_of_claimed {a : Addr} {s : State} {v : Byte} (h : s.cart.cpuRead a = some v) : busRead a s = (v, s) := by
  simp only [busRead, h]

/-- A read of an address that holds a stored byte gives that byte, whatever the rest of the machine, and changes nothing. -/
theorem busRead_of_holdsCode {s : State} {a : Addr} (h : holdsCode s a = true) :
    ∃ v : Byte, ∀ t : State, t.cart = s.cart → t.ram = s.ram → busRead a t = (v, t) := by
  by_cases hram : a.toNat ≤ 0x1FFF
  · exact ⟨Memory.read s.ram (a.toNat % 0x800), fun t _ heq => by rw [busRead_at_ram t hram, heq]⟩
  · simp only [holdsCode, hram, decide_false, Bool.false_or, Option.isSome_iff_exists] at h
    obtain ⟨v, hclaim⟩ := h
    exact ⟨v, fun t heq _ => busRead_of_claimed (by rw [heq, hclaim])⟩

/-! ### The controller ports -/

/-- A bit as the byte that a port returns. -/
def bitByte (b : Bool) : Byte := if b then 0x01 else 0x00

theorem and_one_eq_bitByte (v : Byte) : v &&& 0x01 = bitByte (v.getLsbD 0) := by
  apply BitVec.eq_of_getLsbD_eq
  intro n hn
  cases h : v.getLsbD 0 <;> interval_cases n <;> simp_all [bitByte]

/-- After a read without strobe, the bits have moved down and a 1 has come in (R60). -/
theorem shiftOut_getLsbD (q : Pad) {n : Nat} (h : n < 8) :
    (q.shiftOut false).2.shift.getLsbD n = (decide (n = 7) || q.shift.getLsbD (n + 1)) := by
  interval_cases n <;> simp [Pad.shiftOut]

theorem controllerRead_pad (k : Port) (s : State) :
    (controllerRead k s).1 = ((s.pads.pad k).shiftOut s.pads.strobe).1 ∧
    (controllerRead k s).2.pads.pad k = ((s.pads.pad k).shiftOut s.pads.strobe).2 ∧
    (controllerRead k s).2.pads.strobe = s.pads.strobe := by
  cases k <;> exact ⟨rfl, rfl, rfl⟩

/-- The reads of a port without strobe give its shift register, bit 0 first, and 1 from the ninth on (R60). -/
theorem readMany_port (k : Port) (n : Nat) (s : State) (hstrobe : s.pads.strobe = false) :
    readMany k.address n s =
      (List.range n).map (fun i => bitByte (decide (8 ≤ i) || (s.pads.pad k).shift.getLsbD i)) := by
  induction n generalizing s with
  | zero => rfl
  | succ n ih =>
    obtain ⟨hbyte, hpad, hkeep⟩ := controllerRead_pad k s
    rw [hstrobe] at hbyte hpad hkeep
    have hnext (i : Nat) : (decide (8 ≤ i) || ((s.pads.pad k).shiftOut false).2.shift.getLsbD i) =
        (decide (8 ≤ i + 1) || (s.pads.pad k).shift.getLsbD (i + 1)) := by
      rcases Nat.lt_or_ge i 8 with hlow | hhigh
      · rw [shiftOut_getLsbD _ hlow]
        interval_cases i <;> simp
      · simp [hhigh, show 8 ≤ i + 1 by omega]
    rw [readMany, busRead_port, ih _ hkeep, List.range_succ_eq_map, List.map_cons, List.map_map, hbyte, hpad]
    refine congrArg₂ _ (and_one_eq_bitByte _) (List.map_congr_left fun i _ => ?_)
    rw [hnext]
    rfl

/-- While the strobe is 1, every read of a port is its first button (R60). -/
theorem readMany_port_strobed (k : Port) (n : Nat) (s : State) (hstrobe : s.pads.strobe = true) :
    readMany k.address n s = List.replicate n (bitByte ((s.pads.pad k).buttons.getLsbD 0)) := by
  induction n generalizing s with
  | zero => rfl
  | succ n ih =>
    obtain ⟨hbyte, hpad, hkeep⟩ := controllerRead_pad k s
    rw [hstrobe] at hbyte hpad hkeep
    rw [readMany, busRead_port, ih _ hkeep, hbyte, hpad, List.replicate_succ]
    exact congrArg₂ _ (and_one_eq_bitByte _) rfl

/-- A strobe of 1 keeps the buttons and stays on (R61). -/
theorem controllerWrite_on {v : Byte} (h : v.getLsbD 0 = true) (k : Port) (s : State) :
    (controllerWrite v s).pads.strobe = true ∧
      ((controllerWrite v s).pads.pad k).buttons = (s.pads.pad k).buttons := by
  rw [controllerWrite, if_pos h]
  cases k <;> exact ⟨rfl, rfl⟩

/-- The end of a strobe loads the shift registers (R61). -/
theorem controllerWrite_off {v : Byte} {s : State} (h : v.getLsbD 0 = false) (hstrobe : s.pads.strobe = true) (k : Port) :
    (controllerWrite v s).pads.strobe = false ∧
      ((controllerWrite v s).pads.pad k).shift = (s.pads.pad k).buttons := by
  rw [controllerWrite, if_neg (Bool.eq_false_iff.mp h), if_pos hstrobe]
  cases k <;> exact ⟨rfl, rfl⟩

/-! ### OAM DMA -/

/-- Whether an address holds a stored byte depends on its page alone. -/
theorem holdsCode_page (s : State) (page offset : Byte) :
    holdsCode s (word16 page offset) = holdsCode s (word16 page 0x00) := by
  have hlt := offset.isLt
  have hzero : (word16 page 0x00).toNat = 256 * page.toNat := word16_toNat page 0x00
  have hbound (n : Nat) (h : n % 256 = 255) : (word16 page offset).toNat ≤ n ↔ (word16 page 0x00).toNat ≤ n := by
    rw [word16_toNat, hzero]
    omega
  have hclaim : (s.cart.cpuRead (word16 page offset)).isSome = (s.cart.cpuRead (word16 page 0x00)).isSome := by
    have h8 := hbound 0x7FFF (by decide)
    have h6 := hbound 0x5FFF (by decide)
    simp only [← Nat.not_lt, not_iff_not] at h8 h6
    cases hm : s.cart.mapper <;> simp only [Cartridge.cpuRead, hm, Nat.lt_iff_add_one_le] at * <;> grind
  simp only [holdsCode, hclaim, hbound 0x1FFF (by decide)]

/-- Adding one byte more to an offset in OAM, counted from the address before it. -/
theorem add_one_add_ofNat (a : Byte) (j : Nat) : a + 1 + BitVec.ofNat 8 j = a + BitVec.ofNat 8 (j + 1) := by
  rw [BitVec.add_assoc, Nat.add_comm j 1, BitVec.ofNat_add 1 j]
  rfl

/-- Two offsets of less than 256 reach the same OAM cell only if they are equal. -/
theorem add_ofNat_ne (a : Byte) {j : Nat} (hpos : j ≠ 0) (hlt : j < 256) : (a + BitVec.ofNat 8 j).toNat ≠ a.toNat := by
  rw [BitVec.toNat_add, BitVec.toNat_ofNat]
  have := a.isLt
  omega

/-- The last `count` bytes of a DMA from a page of stored bytes: the cells from `oam_addr` on take them, the other cells keep
what they hold, and nothing else changes (46 R232). -/
theorem oamCopy_of_page {page : Byte} {f : Byte → Byte} {count : Nat} (hcount : count ≤ 256) {s : State}
    (hoam : Memory.wf 256 s.ppu.oam = true)
    (hpage : ∀ (i : Byte) (t : State), t.cart = s.cart → t.ram = s.ram → busRead (word16 page i) t = (f i, t)) :
    ∃ oam : Memory 8,
      oamCopy page count s =
        { s with ppu := { s.ppu with oam := oam, oamAddr := s.ppu.oamAddr + BitVec.ofNat 8 count } } ∧
      ∀ j < 256,
        Memory.read oam (s.ppu.oamAddr + BitVec.ofNat 8 j).toNat =
          if j < count then f (BitVec.ofNat 8 (256 - count + j))
          else Memory.read s.ppu.oam (s.ppu.oamAddr + BitVec.ofNat 8 j).toNat := by
  induction count generalizing s with
  | zero => exact ⟨s.ppu.oam, by simp [oamCopy], fun j _ => rfl⟩
  | succ count ih =>
    have hcell : s.ppu.oamAddr.toNat < 256 := s.ppu.oamAddr.isLt
    obtain ⟨oam, hcopy, hread⟩ := ih (s := writeOamData (f (BitVec.ofNat 8 (255 - count))) s) (by omega)
      (Memory.wf_write hcell hoam) hpage
    refine ⟨oam, ?_, fun j hj => ?_⟩
    · rw [oamCopy, hpage _ s rfl rfl, hcopy]
      simp only [writeOamData, add_one_add_ofNat]
    · simp only [writeOamData, add_one_add_ofNat] at hread
      cases j with
      | zero =>
        have hround : s.ppu.oamAddr + BitVec.ofNat 8 (255 + 1) = s.ppu.oamAddr := BitVec.add_zero _
        have hlast := hread 255 (by omega)
        rw [if_neg (by omega), hround, Memory.read_write_same hoam] at hlast
        rw [if_pos (by omega), BitVec.add_zero, hlast, show 256 - (count + 1) + 0 = 255 - count by omega]
      | succ j =>
        have hother := add_ofNat_ne s.ppu.oamAddr (j := j + 1) (by omega) hj
        rw [hread j (by omega), Memory.read_write_other hother hoam, show 256 - (count + 1) + (j + 1) = 256 - count + j by omega]
        simp only [Nat.add_lt_add_iff_right]

/-! ### The obligations -/

/-- Settles O29: RAM is reached by the address modulo 0x800, a PPU register by the address modulo 8. -/
theorem mirroredRegions : Obligations.MirroredRegions := by
  refine fun a b v s => ⟨fun ha hb hcell => ⟨?_, ?_, fun hwf => ?_⟩, fun ha ha' hb hb' hreg => ⟨?_, ?_⟩⟩
  · rw [busRead_at_ram s ha, busRead_at_ram s hb, hcell]
  · rw [busWrite_at_ram v s ha, busWrite_at_ram v s hb, hcell]
  · rw [busWrite_at_ram v s ha, busRead_at_ram _ hb, hcell, Memory.read_write_same hwf]
  · rw [busRead_at_ppu s ha ha', busRead_at_ppu s hb hb', ppuRegOf_congr hreg]
  · rw [busWrite_at_ppu v s ha ha', busWrite_at_ppu v s hb hb', ppuRegOf_congr hreg]

/-- Settles O31: a claimed read, a RAM read and a read with nothing behind it change nothing, and of the PPU registers only
PPUSTATUS and PPUDATA change on a read. -/
theorem onlyFourReadsHaveEffects : Obligations.OnlyFourReadsHaveEffects := by
  intro a s heffect
  by_contra hother
  apply heffect
  cases hclaim : s.cart.cpuRead a with
  | some v => rw [busRead_of_claimed hclaim]
  | none =>
    rcases Nat.lt_or_ge a.toNat 0x2000 with hram | hlow
    · rw [busRead_at_ram s (by omega)]
    rcases Nat.lt_or_ge a.toNat 0x4000 with hppu | hhigh
    · obtain ⟨hstatus, hdata⟩ := mod_of_ppuRegOf a
      rw [busRead_at_ppu s hlow (by omega)]
      exact ppuRegRead_state (fun h => by have := hstatus h; omega) (fun h => by have := hdata h; omega) s
    · rw [busRead_of_unclaimed hclaim hhigh (by omega) (by omega)]

/-- Settles O32: the cases of a bus write, each with what it can change. -/
theorem writesReachOneDevice : Obligations.WritesReachOneDevice := by
  intro a v s
  obtain ⟨c, ha, hclaim, h⟩ | ⟨ha, h⟩ | ⟨ha, ha', h⟩ | ⟨ha, h⟩ | ⟨ha, h⟩ | ⟨ha, h⟩ := busWrite_cases a v s <;> rw [h]
  · obtain ⟨m, rfl⟩ := Cartridge.cpuWrite_frame hclaim
    exact ⟨fun _ => rfl, fun _ _ => rfl, fun _ => ⟨rfl, rfl⟩, fun _ => rfl, fun _ _ => rfl, fun _ => by omega, rfl,
      fun _ => rfl, ⟨rfl, rfl, rfl, rfl, rfl, rfl⟩, rfl, rfl, rfl⟩
  · exact ⟨fun _ => by omega, fun _ _ => rfl, fun _ => ⟨rfl, rfl⟩, fun _ => rfl, fun _ _ => rfl, fun _ => rfl, rfl,
      fun _ => rfl, ⟨rfl, rfl, rfl, rfl, rfl, rfl⟩, rfl, rfl, rfl⟩
  · obtain ⟨nmi, ppu, chr, heq, hrom, -⟩ := ppuRegWrite_frame (ppuRegOf a) v s
    rw [heq]
    exact ⟨fun _ => rfl, fun hout => absurd ⟨ha, ha'⟩ hout, fun hout => absurd ⟨ha, ha'⟩ hout, fun _ => rfl,
      fun _ _ => rfl, fun _ => rfl, rfl, hrom, ⟨rfl, rfl, rfl, rfl, rfl, rfl⟩, rfl, rfl, rfl⟩
  · obtain ⟨_, _, _, _, _, _, -, -, heq⟩ := oamDma_frame v s
    rw [heq]
    exact ⟨fun _ => rfl, fun _ hdma => absurd ha hdma, fun _ => ⟨rfl, rfl⟩, fun hdma => absurd ha hdma,
      fun hdma _ => absurd ha hdma, fun _ => rfl, rfl, fun _ => rfl, ⟨rfl, rfl, rfl, rfl, rfl, rfl⟩, rfl, rfl, rfl⟩
  · obtain ⟨_, heq⟩ := controllerWrite_frame v s
    rw [heq]
    exact ⟨fun _ => rfl, fun _ _ => rfl, fun _ => ⟨rfl, rfl⟩, fun _ => rfl, fun _ hstrobe => absurd ha hstrobe,
      fun _ => rfl, rfl, fun _ => rfl, ⟨rfl, rfl, rfl, rfl, rfl, rfl⟩, rfl, rfl, rfl⟩
  · exact ⟨fun _ => rfl, fun _ _ => rfl, fun _ => ⟨rfl, rfl⟩, fun _ => rfl, fun _ _ => rfl, fun _ => rfl, rfl,
      fun _ => rfl, ⟨rfl, rfl, rfl, rfl, rfl, rfl⟩, rfl, rfl, rfl⟩

/-- Settles O33: the strobe loads the shift register, whose bits the reads then give in order; a press changes the bits of
its mask. -/
theorem controllerProtocol : Obligations.ControllerProtocol := by
  refine ⟨⟨rfl, rfl⟩, fun q => rfl, fun s n v1 v0 k hon hoff => ?reads, fun s mask pressed k j button => ?presses⟩
  case reads =>
    obtain ⟨hstrobe, hbuttons⟩ := controllerWrite_on hon k s
    obtain ⟨hend, hshift⟩ := controllerWrite_off hoff hstrobe k
    simp only [busWrite_at_strobe]
    constructor
    · rw [readMany_port k _ _ hend, hshift, hbuttons, List.range_add, List.map_append, List.map_map]
      refine congrArg₂ _ rfl (List.eq_replicate_iff.mpr ⟨by simp, fun b hb => ?_⟩)
      obtain ⟨i, -, rfl⟩ := List.mem_map.mp hb
      simp [bitByte]
    · rw [readMany_port_strobed k n _ hstrobe, hbuttons]
      rfl
  case presses =>
    refine ⟨fun n hn => ?_, ?_, ?_, ?_, fun c => ?_⟩
    · rw [setButtonPressed_pad]
      by_cases hport : j = k <;> simp only [hport, if_true, if_false, true_and, false_and, Pad.press_getLsbD _ _ _ hn]
    · rw [setButtonPressed_pad]
      split_ifs <;> rfl
    · cases k <;> rfl
    · cases k <;> rfl
    · rw [setButton, setButtonPressed_pad]
      by_cases hport : j = k <;>
        simp only [hport, if_true, if_false, true_and, false_and, Pad.holds, Pad.press_getLsbD _ _ _ c.bit_lt,
          button.mask_getLsbD c.bit_lt, decide_eq_true_eq, Button.bit_inj]

/-- Settles O34: the 256 bytes of the copy fill OAM once round from `oam_addr`. -/
theorem oamDma_copies_page : Obligations.OamDma := by
  intro s v
  rw [busWrite_at_dma]
  refine ⟨?_, ?_, fun hoam hpage => ?_⟩
  · obtain ⟨_, _, _, _, _, _, -, -, h⟩ := oamDma_frame v s
    rw [h]
  · obtain ⟨_, _, _, _, _, _, -, -, h⟩ := oamDma_frame v s
    rw [h]
  · have hstored (i : Byte) (t : State) (hcart : t.cart = s.cart) (hram : t.ram = s.ram) :
        busRead (word16 v i) t = ((busRead (word16 v i) s).1, t) := by
      obtain ⟨b, hb⟩ := busRead_of_holdsCode ((holdsCode_page s v i).trans hpage)
      rw [hb t hcart hram, hb s rfl rfl]
    obtain ⟨oam, hcopy, hread⟩ := oamCopy_of_page (Nat.le_refl 256) hoam hstored
    refine ⟨oam, ?_, fun i => ?_⟩
    · have hround : s.ppu.oamAddr + BitVec.ofNat 8 256 = s.ppu.oamAddr := BitVec.add_zero _
      rw [oamDma, hcopy, hround]
      rfl
    · have hcell := hread i.toNat i.isLt
      rw [if_pos i.isLt, Nat.sub_self, Nat.zero_add, BitVec.ofNat_toNat, BitVec.setWidth_eq] at hcell
      exact hcell

/-- Settles O51: a set latch makes every request a repetition, and only the clock at (261, 1) clears it. -/
theorem oneNmiPerVblank : Obligations.OneNmiPerVblank := by
  refine fun s hfired => ⟨fun a v => ?write, fun a => ?read, fun hleave => ?clock⟩
  case read => exact ⟨(busRead_ppu_nmiFired a s).trans hfired, busRead_nmiPending a s⟩
  case write =>
    obtain ⟨c, -, -, h⟩ | ⟨-, h⟩ | ⟨-, -, h⟩ | ⟨-, h⟩ | ⟨-, h⟩ | ⟨-, h⟩ := busWrite_cases a v s <;> rw [h]
    · exact ⟨hfired, rfl⟩
    · exact ⟨hfired, rfl⟩
    · obtain ⟨nmi, ppu, chr, heq, -, hkeep, -⟩ := ppuRegWrite_frame (ppuRegOf a) v s
      rw [heq]
      exact hkeep hfired
    · obtain ⟨_, _, _, _, _, _, -, -, heq⟩ := oamDma_frame v s
      rw [heq]
      exact ⟨hfired, rfl⟩
    · obtain ⟨_, heq⟩ := controllerWrite_frame v s
      rw [heq]
      exact ⟨hfired, rfl⟩
    · exact ⟨hfired, rfl⟩
  case clock =>
    rw [ppuTick, advancePosition_eq]
    by_cases henter : s.ppu.pixelY = 241 ∧ s.ppu.pixelX = 1
    · rw [positionEvents_vblankEnter henter.1 henter.2, vblankEnter_eq]
      simp [hfired]
    · obtain ⟨-, hlatch, hrequest⟩ := positionEvents_keeps_vblank henter hleave
      exact ⟨hlatch.trans hfired, hrequest⟩

end Sys2Proof.Machine
end

section
/-! PROOFS of the family 48_cartridge_mappers.md: what the mappers claim (R272 to R274), what their windows read (R275, R282
to R284, R288, R291), the writes of their registers (R280, R281, R288, R291), loading an image (R270), and the legality of
a loaded machine (70_reset_and_hazards.md R320). -/

namespace Sys2Proof.Machine

/-! ### Ranges -/

theorem Cartridge.inRange_iff (c : Cartridge) :
    c.inRange = true ↔
      1 ≤ c.prgBanks ∧ c.prgBanks ≤ 255 ∧ 1 ≤ c.chrBanks ∧ c.chrBanks ≤ 255 ∧
        (c.chrIsRam = true → c.chrBanks = 1) ∧ c.mapperInRange = true := by
  cases h : c.chrIsRam <;> simp [Cartridge.inRange, h, and_assoc]

/-- A bank's offset, reduced modulo the size of the array, leaves room for the whole bank. -/
theorem bank_mod_add_lt {unit size k x : Nat} (hdvd : unit ∣ size) (hsize : 0 < size) (hx : x < unit) :
    k * unit % size + x < size := by
  obtain ⟨n, rfl⟩ := hdvd
  have hn : 0 < n := Nat.pos_of_mul_pos_left hsize
  rw [Nat.mul_comm k, Nat.mul_mod_mul_left]
  calc unit * (k % n) + x < unit * (k % n) + unit := by omega
    _ = unit * (k % n + 1) := by ring
    _ ≤ unit * n := Nat.mul_le_mul_left _ (Nat.mod_lt _ hn)

/-! ### What the windows of the mappers read -/

/-- The first 16 KB window of mapper 1 (R282). -/
theorem Mmc1.prgOff0_eq (r : Mmc1) (banks : Nat) :
    r.prgOff0 banks =
      if r.control.toNat / 4 % 4 = 2 then 0
      else if r.control.toNat / 4 % 4 = 3 then r.prg.toNat % 16 * 16384 % (16384 * banks)
      else (r.prg.toNat % 16 - r.prg.toNat % 16 % 2) * 16384 % (16384 * banks) := by
  have heven : r.prg.toNat % 16 / 2 * 2 = r.prg.toNat % 16 - r.prg.toNat % 16 % 2 := by omega
  unfold Mmc1.prgOff0 Mmc1.prgMode Mmc1.prgBank prgBankSize
  dsimp only
  split <;> simp_all

/-- The second 16 KB window of mapper 1 (R282). -/
theorem Mmc1.prgOff1_eq (r : Mmc1) (banks : Nat) :
    r.prgOff1 banks =
      if r.control.toNat / 4 % 4 = 2 then r.prg.toNat % 16 * 16384 % (16384 * banks)
      else if r.control.toNat / 4 % 4 = 3 then 16384 * (banks - 1)
      else (r.prg.toNat % 16 - r.prg.toNat % 16 % 2 + 1) * 16384 % (16384 * banks) := by
  have heven : r.prg.toNat % 16 / 2 * 2 = r.prg.toNat % 16 - r.prg.toNat % 16 % 2 := by omega
  unfold Mmc1.prgOff1 Mmc1.prgMode Mmc1.prgBank prgBankSize
  dsimp only
  split <;> simp_all

/-- The CHR mode is the top bit of the five (R281). -/
theorem Mmc1.chrMode_eq (r : Mmc1) : r.chrMode = decide (16 ≤ r.control.toNat) := by
  have := r.control.isLt
  rw [Mmc1.chrMode, ← BitVec.testBit_toNat, Nat.testBit_eq_decide_div_mod_eq]
  congr 1
  rw [eq_iff_iff]
  omega

/-- The first 4 KB window of mapper 1 (R282). -/
theorem Mmc1.chrOff0_eq (r : Mmc1) (size : Nat) :
    r.chrOff0 size =
      (if 16 ≤ r.control.toNat then r.chr0.toNat else r.chr0.toNat - r.chr0.toNat % 2) * 4096 % size := by
  have heven : r.chr0.toNat / 2 * 2 = r.chr0.toNat - r.chr0.toNat % 2 := by omega
  simp only [Mmc1.chrOff0, Mmc1.chrMode_eq, decide_eq_true_eq, heven]
  split_ifs <;> rfl

/-- The second 4 KB window of mapper 1 (R282). -/
theorem Mmc1.chrOff1_eq (r : Mmc1) (size : Nat) :
    r.chrOff1 size =
      (if 16 ≤ r.control.toNat then r.chr1.toNat else r.chr0.toNat - r.chr0.toNat % 2 + 1) * 4096 % size := by
  have heven : r.chr0.toNat / 2 * 2 = r.chr0.toNat - r.chr0.toNat % 2 := by omega
  simp only [Mmc1.chrOff1, Mmc1.chrMode_eq, decide_eq_true_eq, heven]
  split_ifs <;> rfl

/-- The index of a PRG-ROM read lies in `prg` (R295(a)). -/
theorem Cartridge.prgIndex_lt {c : Cartridge} (h : c.inRange = true) (a : Addr) : c.prgIndex a < 16384 * c.prgBanks := by
  obtain ⟨hbanks, -, -, -, -, hmapper⟩ := c.inRange_iff.mp h
  have hoffset : a.toNat % 0x4000 < 16384 := Nat.mod_lt _ (by decide)
  have hbank (k : Nat) : k * 16384 % (16384 * c.prgBanks) + a.toNat % 0x4000 < 16384 * c.prgBanks :=
    bank_mod_add_lt (Nat.dvd_mul_right ..) (by omega) hoffset
  unfold Cartridge.prgIndex
  cases hm : c.mapper with
  | nrom => exact Nat.mod_lt _ (by omega)
  | cnrom bank => exact Nat.mod_lt _ (by omega)
  | mmc1 r =>
    have hlow : r.prgOff0 c.prgBanks + a.toNat % 0x4000 < 16384 * c.prgBanks := by
      rw [Mmc1.prgOff0_eq]
      split_ifs
      · omega
      · exact hbank _
      · exact hbank _
    have hhigh : r.prgOff1 c.prgBanks + a.toNat % 0x4000 < 16384 * c.prgBanks := by
      rw [Mmc1.prgOff1_eq]
      split_ifs
      · exact hbank _
      · omega
      · exact hbank _
    dsimp only
    split_ifs
    · exact hlow
    · exact hhigh
  | unrom bank =>
    simp only [Cartridge.mapperInRange, hm, decide_eq_true_eq] at hmapper
    dsimp only
    split_ifs <;> omega

/-- The index of a pattern access lies in `chr` (R295(a)). -/
theorem Cartridge.chrIndex_lt {c : Cartridge} (h : c.inRange = true) {q : PpuAddr} (hq : q.toNat ≤ 0x1FFF) :
    c.chrIndex q < 8192 * c.chrBanks := by
  obtain ⟨-, -, hbanks, -, -, hmapper⟩ := c.inRange_iff.mp h
  have hoffset : q.toNat % 0x1000 < 4096 := Nat.mod_lt _ (by decide)
  have hbank (k : Nat) : k * 4096 % (8192 * c.chrBanks) + q.toNat % 0x1000 < 8192 * c.chrBanks :=
    bank_mod_add_lt (Dvd.dvd.mul_right (by decide) _) (by omega) hoffset
  unfold Cartridge.chrIndex
  cases hm : c.mapper with
  | nrom | unrom bank => dsimp only; omega
  | mmc1 r =>
    simp only [Mmc1.chrOff0_eq, Mmc1.chrOff1_eq, Cartridge.chrSize, chrBankSize]
    split_ifs <;> exact hbank _
  | cnrom bank =>
    simp only [Cartridge.mapperInRange, hm, decide_eq_true_eq] at hmapper
    dsimp only
    omega

/-- A pattern read is the byte of `chr` that the mapper's index names (R274). -/
theorem ppuRead_of_pattern (s : State) {q : PpuAddr} (hq : q.toNat ≤ 0x1FFF) :
    ppuRead s q = Memory.read s.cart.chr (s.cart.chrIndex q) := by
  simp only [ppuRead, Cartridge.ppuRead, hq, if_true]

/-! ### Mapper 1 -/

theorem Cartridge.cpuRead_mmc1_ram {c : Cartridge} {r : Mmc1} {a : Addr} (h : c.mapper = .mmc1 r)
    (hlow : 0x6000 ≤ a.toNat) (hhigh : a.toNat ≤ 0x7FFF) :
    c.cpuRead a = some (Memory.read r.prgRam (a.toNat - 0x6000)) := by
  simp only [Cartridge.cpuRead, h, hlow, show ¬ 0x8000 ≤ a.toNat by omega, if_false, if_true]

theorem busWrite_mmc1_ram {s : State} {r : Mmc1} {a : Addr} (v : Byte) (h : s.cart.mapper = .mmc1 r)
    (hlow : 0x6000 ≤ a.toNat) (hhigh : a.toNat ≤ 0x7FFF) :
    busWrite a v s =
      { s with cart.mapper := .mmc1 { r with prgRam := Memory.write r.prgRam (a.toNat - 0x6000) v } } :=
  busWrite_of_claimed (by simp only [Cartridge.cpuWrite, h, hlow, show ¬ 0x8000 ≤ a.toNat by omega, if_false, if_true])

theorem busWrite_mmc1_serial {s : State} {r : Mmc1} {a : Addr} (v : Byte) (h : s.cart.mapper = .mmc1 r)
    (ha : 0x8000 ≤ a.toNat) : busWrite a v s = { s with cart.mapper := .mmc1 (r.serialWrite a v) } :=
  busWrite_of_claimed (by simp only [Cartridge.cpuWrite, h, ha, if_true])

/-- A serial write after another. -/
theorem busWrite_mmc1_serial_again (s : State) (r : Mmc1) {a : Addr} (v : Byte) (ha : 0x8000 ≤ a.toNat) :
    busWrite a v { s with cart.mapper := .mmc1 r } = { s with cart.mapper := .mmc1 (r.serialWrite a v) } :=
  busWrite_mmc1_serial v rfl ha

/-- The shift register after one bit has come in at the top (R280). -/
def Mmc1.shiftIn (shift : BitVec 5) (v : Byte) : BitVec 5 := shift >>> 1 ||| (if v.getLsbD 0 then 0x10 else 0x00)

theorem Mmc1.shiftIn_toNat (shift : BitVec 5) (v : Byte) :
    (Mmc1.shiftIn shift v).toNat = shift.toNat / 2 + 16 * (v.toNat % 2) := by
  have hlow : (shift >>> 1).toNat < 2 ^ 4 := by
    have := shift.isLt
    rw [BitVec.toNat_ushiftRight, Nat.shiftRight_eq_div_pow]
    omega
  have hbit : v.getLsbD 0 = decide (v.toNat % 2 = 1) := by
    rw [← BitVec.testBit_toNat, Nat.testBit_zero]
  have htop : (if v.getLsbD 0 then 0x10 else 0x00 : BitVec 5).toNat = 2 ^ 4 * (v.toNat % 2) := by
    rw [hbit]
    rcases Nat.mod_two_eq_zero_or_one v.toNat with h | h <;> simp [h]
  rw [Mmc1.shiftIn, BitVec.toNat_or, htop, Nat.or_comm, ← Nat.two_pow_add_eq_or_of_lt hlow, BitVec.toNat_ushiftRight,
    Nat.shiftRight_eq_div_pow]
  omega

/-- A write with bit 7 clear that does not fill the shift register. -/
theorem Mmc1.serialWrite_shift {r : Mmc1} {v : Byte} (a : Addr) (hreset : v.getLsbD 7 = false) (hcount : r.count + 1 ≠ 5) :
    r.serialWrite a v = { r with shift := Mmc1.shiftIn r.shift v, count := r.count + 1 } := by
  rw [Mmc1.serialWrite, if_neg (Bool.eq_false_iff.mp hreset), if_neg hcount]
  rfl

/-- A write with bit 7 clear that fills the shift register. -/
theorem Mmc1.serialWrite_latch {r : Mmc1} {v : Byte} (a : Addr) (hreset : v.getLsbD 7 = false) (hcount : r.count + 1 = 5) :
    r.serialWrite a v = r.latch a (Mmc1.shiftIn r.shift v) := by
  rw [Mmc1.serialWrite, if_neg (Bool.eq_false_iff.mp hreset), if_pos hcount]
  rfl

/-- Five bits shifted in are a number, the first bit lowest; nothing is left of what the register held. -/
theorem Mmc1.shiftIn_five (shift : BitVec 5) (v1 v2 v3 v4 v5 : Byte) :
    Mmc1.shiftIn (Mmc1.shiftIn (Mmc1.shiftIn (Mmc1.shiftIn (Mmc1.shiftIn shift v1) v2) v3) v4) v5 =
      BitVec.ofNat 5
        (v1.toNat % 2 + 2 * (v2.toNat % 2) + 4 * (v3.toNat % 2) + 8 * (v4.toNat % 2) + 16 * (v5.toNat % 2)) := by
  apply BitVec.eq_of_toNat_eq
  have := shift.isLt
  simp only [Mmc1.shiftIn_toNat, BitVec.toNat_ofNat]
  omega

/-- The register that a latch reaches, by the address ranges of R280. -/
theorem Mmc1.latch_eq (r : Mmc1) {a : Addr} (ha : 0x8000 ≤ a.toNat) (value : BitVec 5) :
    r.latch a value =
      if a.toNat < 0xA000 then
        { r with shift := 0, count := 0, control := value, mirroring := mirrorOf (value.toNat % 4) }
      else if a.toNat < 0xC000 then { r with shift := 0, count := 0, chr0 := value }
      else if a.toNat < 0xE000 then { r with shift := 0, count := 0, chr1 := value }
      else { r with shift := 0, count := 0, prg := value } := by
  have := a.isLt
  unfold Mmc1.latch
  split_ifs with hcontrol hchr0 hchr1
  · simp only [show a.toNat / 2 ^ 13 % 4 = 0 by omega]
  · simp only [show a.toNat / 2 ^ 13 % 4 = 1 by omega]
  · simp only [show a.toNat / 2 ^ 13 % 4 = 2 by omega]
  · simp only [show a.toNat / 2 ^ 13 % 4 = 3 by omega]

/-- Five writes with bit 7 clear, from an empty shift register, latch their bits into the register that the fifth
selects (R280). -/
theorem Mmc1.serialWrite_five {r : Mmc1} {a1 a2 a3 a4 a5 : Addr} {v1 v2 v3 v4 v5 : Byte} (hcount : r.count = 0)
    (n1 : v1.getLsbD 7 = false) (n2 : v2.getLsbD 7 = false) (n3 : v3.getLsbD 7 = false) (n4 : v4.getLsbD 7 = false)
    (n5 : v5.getLsbD 7 = false) (h5 : 0x8000 ≤ a5.toNat) :
    ((((r.serialWrite a1 v1).serialWrite a2 v2).serialWrite a3 v3).serialWrite a4 v4).serialWrite a5 v5 =
      r.latch a5
        (BitVec.ofNat 5
          (v1.toNat % 2 + 2 * (v2.toNat % 2) + 4 * (v3.toNat % 2) + 8 * (v4.toNat % 2) + 16 * (v5.toNat % 2))) := by
  rw [Mmc1.serialWrite_shift a1 n1 (by omega), Mmc1.serialWrite_shift a2 n2 (by simp [hcount]),
    Mmc1.serialWrite_shift a3 n3 (by simp [hcount]), Mmc1.serialWrite_shift a4 n4 (by simp [hcount]),
    Mmc1.serialWrite_latch a5 n5 (by simp [hcount]), Mmc1.latch_eq _ h5, Mmc1.latch_eq _ h5, Mmc1.shiftIn_five]

/-- The mirroring of the low two control bits (R281). -/
theorem mirrorOf_eq (n : Nat) :
    mirrorOf (n % 4) =
      if n % 4 = 0 then .oneLo else if n % 4 = 1 then .oneHi else if n % 4 = 2 then .vertical else .horizontal := by
  have : n % 4 < 4 := Nat.mod_lt _ (by decide)
  generalize n % 4 = k at this ⊢
  interval_cases k <;> rfl

/-! ### Loading an image -/

/-- The mapper number of an image, from the high nibbles of two header bytes (R270). -/
theorem mapperNumber_eq (flags7 flags6 : Byte) :
    ((flags7 &&& (0xF0 : Byte)) ||| (flags6 >>> 4)).toNat = flags7.toNat / 16 * 16 + flags6.toNat / 16 := by
  have hhigh : flags7 &&& (0xF0 : Byte) = (flags7 >>> 4) <<< 4 := by
    apply BitVec.eq_of_getLsbD_eq
    intro i hi
    interval_cases i <;> simp
  have hlow : (flags6 >>> 4).toNat < 2 ^ 4 := by
    have := flags6.isLt
    rw [BitVec.toNat_ushiftRight, Nat.shiftRight_eq_div_pow]
    omega
  have hshift : ((flags7 >>> 4) <<< 4).toNat = 2 ^ 4 * (flags7.toNat / 16) := by
    have := flags7.isLt
    rw [BitVec.toNat_shiftLeft, BitVec.toNat_ushiftRight, Nat.shiftRight_eq_div_pow, Nat.shiftLeft_eq]
    omega
  rw [BitVec.toNat_or, hhigh, hshift, ← Nat.two_pow_add_eq_or_of_lt hlow, BitVec.toNat_ushiftRight,
    Nat.shiftRight_eq_div_pow]
  omega

/-- There is a mapper of each of the numbers 0 to 3, in its reset state, and of no other. -/
theorem Mapper.ofNumber_eq_some {n : Nat} {mirroring : Mirroring} {ram : Memory 8} {m : Mapper}
    (h : Mapper.ofNumber n mirroring ram = some m) :
    n ≤ 3 ∧ m.number = n ∧
      (m = .nrom ∨ m = .mmc1 (Mmc1.reset mirroring ram) ∨ m = .unrom 0 ∨ m = .cnrom 0) := by
  unfold Mapper.ofNumber at h
  split at h
  case h_5 => cases h
  all_goals
    obtain rfl := Option.some.inj h
    simp [Mapper.number]

theorem Mapper.exists_ofNumber {n : Nat} (h : n ≤ 3) (mirroring : Mirroring) (ram : Memory 8) :
    ∃ m, Mapper.ofNumber n mirroring ram = some m := by
  interval_cases n <;> exact ⟨_, rfl⟩

/-- A part of the image, as the memory that is loaded from it. -/
theorem read_ofBytes_part (bytes : List Byte) {start size k : Nat} (h : k < size) :
    Memory.read (Memory.ofBytes ((bytes.drop start).take size)) k = bytes.getD (start + k) 0 := by
  rw [Memory.read_ofBytes]
  simp [List.getD_eq_getElem?_getD, h]

/-- A load of any parameters and image, when the conditions of R270 are met. -/
theorem loadImage_of_valid (p : Params) {bytes : List Byte} (hmagic : bytes.take 4 = [0x4E, 0x45, 0x53, 0x1A])
    (htrainer : (bytes.getD 6 0).getLsbD 2 = false)
    (hnumber : (bytes.getD 7 0).toNat / 16 * 16 + (bytes.getD 6 0).toNat / 16 ≤ 3) (hbanks : 1 ≤ (bytes.getD 4 0).toNat)
    (hlength : 16 + 16384 * (bytes.getD 4 0).toNat + 8192 * (bytes.getD 5 0).toNat ≤ bytes.length) :
    ∃ c, loadImage p bytes = .ok c := by
  rw [← mapperNumber_eq] at hnumber
  obtain ⟨m, hm⟩ := Mapper.exists_ofNumber hnumber
    (HeaderMirroring.mode (if (bytes.getD 6 0).getLsbD 0 then .v else .h)) p.initPrgRam
  rw [loadImage, if_neg (not_not.mpr hmagic), if_neg (Bool.eq_false_iff.mp htrainer)]
  dsimp only
  rw [hm]
  dsimp only
  rw [if_neg (by omega), if_neg (by omega)]
  exact ⟨_, rfl⟩

/-- A loaded cartridge is legal after the reset that follows the load (R295(a)). -/
theorem afterReset_legal_of_loadImage {p : Params} {bytes : List Byte} {c : Cartridge} (hp : ParamsLegal p)
    (h : loadImage p bytes = .ok c) : (c.afterReset p).Legal := by
  obtain ⟨-, -, -, hprgRam, hchrRam⟩ := hp
  obtain ⟨-, -, hbanks, -, m, hm, rfl⟩ := loadImage_ok h
  obtain ⟨-, -, hmapper⟩ := Mapper.ofNumber_eq_some hm
  have hprgByte := (bytes.getD 4 0).isLt
  have hchrByte := (bytes.getD 5 0).isLt
  refine ⟨(Cartridge.inRange_iff _).mpr ⟨hbanks, Nat.le_of_lt_succ hprgByte, ?_, ?_, ?_, ?_⟩, Memory.wf_ofBytes ?_, ?_, ?_⟩
  · dsimp only [Cartridge.afterReset]
    split_ifs <;> omega
  · dsimp only [Cartridge.afterReset]
    split_ifs <;> omega
  · intro hram
    exact if_pos (of_decide_eq_true hram)
  · rcases hmapper with rfl | rfl | rfl | rfl
    · rfl
    · rfl
    · exact decide_eq_true hbanks
    · refine decide_eq_true ?_
      dsimp only [Cartridge.afterReset]
      split_ifs <;> omega
  · rw [List.length_take]
    exact Nat.min_le_left ..
  · by_cases hchr : (bytes.getD 5 0).toNat = 0
    · simp only [Cartridge.afterReset, Cartridge.chrSize, hchr, decide_true, if_true]
      exact hchrRam
    · simp only [Cartridge.afterReset, Cartridge.chrSize, hchr, decide_false, Bool.false_eq_true, if_false]
      refine Memory.wf_ofBytes ?_
      rw [List.length_take]
      exact Nat.min_le_left ..
  · rcases hmapper with rfl | rfl | rfl | rfl
    · rfl
    · exact hprgRam
    · rfl
    · rfl

/-- A reset with a cartridge that it makes legal gives a legal machine (70 R320). -/
theorem machineReset_inv {p : Params} {c : Cartridge} (hp : ParamsLegal p) (hc : (c.afterReset p).Legal) :
    (machineReset p c).Inv := by
  have hmem : (initialState p c).MemoryLegal := ⟨hp.1, hp.2.1, hp.2.2.1, Memory.wf_nil⟩
  have hstatus : getFlag .unused 0x24 = true ∧ getFlag .breakBit 0x24 = false := by decide
  rw [machineReset_eq]
  exact ⟨hstatus, ⟨Nat.zero_le _, Nat.zero_le _⟩, hmem, hc, hp, fun h => (Bool.false_ne_true h).elim, fun _ => rfl⟩

/-! ### The obligations -/

/-- Settles O42: which mapper claims an address is read off each mapper's case. -/
theorem whatMappersClaim : Obligations.WhatMappersClaim := by
  refine fun c a q v => ⟨fun hlow => ⟨c.cpuRead_low hlow, c.cpuWrite_low v hlow⟩, fun hlow hhigh => ?_, fun hrom => ?_,
    ?_, ?_⟩
  · cases hm : c.mapper <;>
      simp [Cartridge.cpuRead, Cartridge.cpuWrite, Mapper.number, hm, hlow, show ¬ 0x8000 ≤ a.toNat by omega]
  · refine ⟨by rw [c.cpuRead_high hrom]; rfl, ?_⟩
    cases hm : c.mapper <;> simp [Cartridge.cpuWrite, Mapper.number, hm, hrom]
  · simp only [Cartridge.ppuRead]
    split_ifs with h <;> simp [h]
  · simp only [Cartridge.ppuWrite]
    split_ifs with h <;> simp [h]

/-- Settles O43: each window reads at the mapper's index, which is the arithmetic of R275, R282, R288 or R291. -/
theorem mapperIndicesInBounds : Obligations.MapperIndicesInBounds := by
  refine fun s a q => ⟨fun hc => ⟨fun _ => Cartridge.prgIndex_lt hc a, Cartridge.chrIndex_lt hc⟩,
    fun bank hm ha => ?flat, fun bank hm => ⟨fun ha ha' => ?unrom0, fun ha => ?unrom1⟩, fun bank hm hq => ?fixed,
    fun bank hm hq => ?cnrom, fun r hm => ⟨fun ha ha' => ?ram, fun ha ha' => ?prg0, fun ha => ?prg1, fun hq => ?chr0,
    fun hq hq' => ?chr1⟩⟩
  case flat =>
    rw [busRead_at_prg s ha]
    rcases hm with hm | hm <;> simp only [Cartridge.prgIndex, hm]
  case unrom0 =>
    rw [busRead_at_prg s ha, show a.toNat - 0x8000 = a.toNat % 0x4000 by omega]
    simp only [Cartridge.prgIndex, hm, ha', if_true]
  case unrom1 =>
    have := a.isLt
    rw [busRead_at_prg s (by omega), show a.toNat - 0xC000 = a.toNat % 0x4000 by omega]
    simp only [Cartridge.prgIndex, hm, show ¬ a.toNat ≤ 0xBFFF by omega, if_false]
  case fixed =>
    rw [ppuRead_of_pattern s hq]
    rcases hm with hm | hm <;> simp only [Cartridge.chrIndex, hm]
  case cnrom =>
    rw [ppuRead_of_pattern s hq]
    simp only [Cartridge.chrIndex, hm]
  case ram => exact busRead_of_claimed (Cartridge.cpuRead_mmc1_ram hm ha ha')
  case prg0 =>
    rw [busRead_at_prg s ha, show a.toNat - 0x8000 = a.toNat % 0x4000 by omega]
    simp only [Cartridge.prgIndex, hm, ha', if_true, Mmc1.prgOff0_eq]
  case prg1 =>
    have := a.isLt
    rw [busRead_at_prg s (by omega), show a.toNat - 0xC000 = a.toNat % 0x4000 by omega]
    simp only [Cartridge.prgIndex, hm, show ¬ a.toNat ≤ 0xBFFF by omega, if_false, Mmc1.prgOff1_eq]
  case chr0 =>
    rw [ppuRead_of_pattern s (by omega)]
    simp only [Cartridge.chrIndex, hm, hq, if_true, Mmc1.chrOff0_eq, Cartridge.chrSize, chrBankSize,
      Nat.mod_eq_of_lt (show q.toNat < 0x1000 by omega)]
  case chr1 =>
    rw [ppuRead_of_pattern s hq', show q.toNat - 0x1000 = q.toNat % 0x1000 by omega]
    simp only [Cartridge.chrIndex, hm, show ¬ q.toNat ≤ 0x0FFF by omega, if_false, Mmc1.chrOff1_eq, Cartridge.chrSize,
      chrBankSize]

/-- Settles O44: four bits are shifted in, and the fifth write latches the five. -/
theorem serialRegisterOfMapper1 : Obligations.SerialRegisterOfMapper1 := by
  refine fun s r a1 a2 a3 a4 a5 v1 v2 v3 v4 v5 hm h1 h2 h3 h4 h5 => ⟨fun hreset => ?reset, fun hcount n1 n2 n3 n4 n5 => ?five⟩
  case reset => rw [busWrite_mmc1_serial v1 hm h1, Mmc1.serialWrite, if_pos hreset]
  case five =>
    rw [busWrite_mmc1_serial v1 hm h1, busWrite_mmc1_serial_again s _ v2 h2, busWrite_mmc1_serial_again s _ v3 h3,
      busWrite_mmc1_serial_again s _ v4 h4, busWrite_mmc1_serial_again s _ v5 h5,
      Mmc1.serialWrite_five hcount n1 n2 n3 n4 n5 h5, Mmc1.latch_eq _ h5, mirrorOf_eq]

/-- Settles O45: a bank register is the only field that the write changes, so the windows show the new bank. -/
theorem bankSwitching : Obligations.BankSwitching := by
  refine ⟨fun s r a b v hm hwf ha ha' => ⟨?ram, fun hb => ?readBack⟩, fun s a b q v bank ha => ⟨fun hm => ?nrom,
    fun hm => ?unrom, fun hm => ?cnrom⟩⟩
  case ram => exact ⟨_, Memory.wf_write (by omega) hwf, busWrite_mmc1_ram v hm ha ha'⟩
  case readBack =>
    rw [busWrite_mmc1_ram v hm ha ha']
    rcases Nat.lt_or_ge b.toNat 0x8000 with hb' | hb'
    · rw [busRead_of_claimed (Cartridge.cpuRead_mmc1_ram rfl hb (by omega)),
        busRead_of_claimed (s := s) (Cartridge.cpuRead_mmc1_ram hm hb (by omega))]
      dsimp only
      split_ifs with heq
      · rw [heq, Memory.read_write_same hwf]
      · have : b.toNat ≠ a.toNat := fun h => heq (BitVec.eq_of_toNat_eq h)
        rw [Memory.read_write_other (by omega) hwf]
    · have hne : b ≠ a := by
        rintro rfl
        omega
      rw [busRead_at_prg _ hb', busRead_at_prg s hb', if_neg hne]
      simp only [Cartridge.prgIndex, hm]
      rfl
  case nrom => exact busWrite_of_unclaimed (by simp only [Cartridge.cpuWrite, hm]) (by omega) (by omega) (by omega)
  case unrom =>
    have hwrite : busWrite a v s = { s with cart.mapper := .unrom (v.toNat % s.cart.prgBanks) } :=
      busWrite_of_claimed (by simp only [Cartridge.cpuWrite, hm, ha, if_true])
    rw [hwrite]
    obtain ⟨hlow, hhigh⟩ := (mapperIndicesInBounds
      { s with cart.mapper := .unrom (v.toNat % s.cart.prgBanks) } b q).2.2.1 _ rfl
    exact ⟨rfl, hlow, hhigh⟩
  case cnrom =>
    have hwrite : busWrite a v s = { s with cart.mapper := .cnrom (v.toNat % s.cart.chrBanks) } :=
      busWrite_of_claimed (by simp only [Cartridge.cpuWrite, hm, ha, if_true])
    rw [hwrite]
    refine ⟨rfl, fun hq => ?_, fun hb => ?_⟩
    · rw [ppuRead_of_pattern _ hq]
      rfl
    · rw [busRead_at_prg _ hb, busRead_at_prg s hb]
      simp only [Cartridge.prgIndex, hm]

/-- Settles O46: a load is refused on the first condition that fails, and gives the parts of the image otherwise. -/
theorem imageLoading : Obligations.ImageLoading := by
  refine fun p bytes => ⟨⟨fun ⟨c, hload⟩ => ?necessary, fun ⟨hmagic, htrainer, hnumber, hbanks, hlength⟩ =>
    loadImage_of_valid p hmagic htrainer hnumber hbanks hlength⟩, fun c hload => ?cartridge⟩
  case necessary =>
    obtain ⟨hmagic, htrainer, hbanks, hlength, m, hm, -⟩ := loadImage_ok hload
    obtain ⟨hnumber, -, -⟩ := Mapper.ofNumber_eq_some hm
    rw [mapperNumber_eq] at hnumber
    exact ⟨hmagic, htrainer, hnumber, hbanks, hlength⟩
  case cartridge =>
    obtain ⟨-, -, -, -, m, hm, rfl⟩ := loadImage_ok hload
    obtain ⟨-, hnumber, -⟩ := Mapper.ofNumber_eq_some hm
    rw [mapperNumber_eq] at hnumber
    refine ⟨rfl, hnumber, rfl, rfl, fun k hk => read_ofBytes_part bytes hk, fun hchr => ?_, fun hchr => ?_⟩
    · exact ⟨decide_eq_true hchr, if_pos hchr, if_pos hchr⟩
    · refine ⟨decide_eq_false hchr, if_neg hchr, fun k hk => ?_⟩
      simp only [if_neg hchr]
      exact read_ofBytes_part bytes hk

/-- Settles O54: what a load yields is legal after the reset, whatever the image. -/
theorem loadedMachineIsLegal : Obligations.LoadedMachineIsLegal := by
  intro p bytes s hp hload
  unfold loadRom at hload
  split at hload
  · next c hc =>
    obtain rfl := Except.ok.inj hload
    exact machineReset_inv hp (afterReset_legal_of_loadImage hp hc)
  · cases hload

/-- Settles O53: the blank cartridge is legal, and its reset vector reads as 0x0000. -/
theorem blankMachineReset : Obligations.BlankMachineReset := by
  have hreset : State.reset = machineReset {} Cartridge.blank := by decide
  exact ⟨hreset, hreset ▸ machineReset_inv ⟨rfl, rfl, rfl, rfl, rfl⟩ State.reset_cart⟩

end Sys2Proof.Machine
end

section
/-! PROOFS about the CPU actions and the machine step: what `exec` answers for every instruction, what every action and every
PPU clock keeps (10_state.md; 60_exceptions.md R301, R306; 70_reset_and_hazards.md R326), and the fetch (30_encoding.md
R96). -/

namespace Sys2Proof.Machine

/-! ### What every CPU action keeps -/

/-- `t` is `s` after a part of a CPU action that has not been charged yet: the fault, the cycle count and the PPU's position
are those of `s`, and the invariant holds if it held in `s`. -/
structure ActsTo (s t : State) : Prop where
  fault : t.fault = s.fault
  cycles : t.cpuCycles = s.cpuCycles
  position : t.ppu.pixelX = s.ppu.pixelX ∧ t.ppu.pixelY = s.ppu.pixelY ∧ t.ppu.frameCount = s.ppu.frameCount
  inv : s.Inv → t.Inv

theorem ActsTo.refl (s : State) : ActsTo s s := ⟨rfl, rfl, ⟨rfl, rfl, rfl⟩, id⟩

theorem ActsTo.trans {s t u : State} (h : ActsTo s t) (g : ActsTo t u) : ActsTo s u := by
  obtain ⟨hf, hc, ⟨hx, hy, hn⟩, hi⟩ := h
  obtain ⟨gf, gc, ⟨gx, gy, gn⟩, gi⟩ := g
  exact ⟨gf.trans hf, gc.trans hc, ⟨gx.trans hx, gy.trans hy, gn.trans hn⟩, gi ∘ hi⟩

theorem ReadsTo.acts {s t : State} (h : ReadsTo s t) : ActsTo s t := by
  refine ⟨h.fault, h.cpuCycles, ⟨h.ppu_pixelX, h.ppu_pixelY, h.ppu_frameCount⟩, ?_⟩
  obtain ⟨vblank, _, _, _, _, _, hvblank, rfl⟩ := h
  rintro ⟨hstatus, hposition, hmemory, hcart, hparams, hlatch, hfault⟩
  exact ⟨hstatus, hposition, hmemory, hcart, hparams, fun hv => hlatch (hvblank hv), hfault⟩

/-- The registers other than `P`, the NMI request and the stall are free. -/
theorem acts_registers (s : State) (a x y sp : Byte) (pc : Addr) (nmi : Bool) (stall : Nat) :
    ActsTo s { s with a := a, x := x, y := y, sp := sp, pc := pc, nmiPending := nmi, stallCycles := stall } :=
  ⟨rfl, rfl, ⟨rfl, rfl, rfl⟩, id⟩

/-- `P` may change to any status whose Unused and Break bits are legal if they were (10_state.md R15). -/
theorem acts_status {s : State} {q : Byte}
    (h : getFlag .unused s.p = true ∧ getFlag .breakBit s.p = false →
      getFlag .unused q = true ∧ getFlag .breakBit q = false) : ActsTo s { s with p := q } :=
  ⟨rfl, rfl, ⟨rfl, rfl, rfl⟩, fun hinv => ⟨h hinv.1, hinv.2⟩⟩

theorem acts_setFlag {f : Flag} (hunused : f ≠ .unused) (hbreak : f ≠ .breakBit) (b : Bool) (s : State) :
    ActsTo s (s.setFlag f b) :=
  acts_status (by simp [hunused.symm, hbreak.symm])

theorem acts_setZN (v : Byte) (s : State) : ActsTo s (s.setZN v) :=
  (acts_setFlag (by decide) (by decide) _ s).trans (acts_setFlag (by decide) (by decide) _ _)

/-! ### Bus writes -/

/-- A write of a PPU register keeps the invariant: PPUCTRL sets the latch whenever it would be violated (46 R223), and the
memories stay in form. -/
theorem ppuRegWrite_inv (r : PpuReg) (v : Byte) {s : State} (h : s.Inv) : (ppuRegWrite r v s).Inv := by
  obtain ⟨hstatus, hposition, ⟨hram, hvram, hoam, hpicture⟩, hcart, hparams, hlatch, hfault⟩ := h
  cases r <;> simp only [ppuRegWrite]
  case ctrl =>
    rw [writeCtrl_eq]
    refine ⟨hstatus, hposition, ⟨hram, hvram, hoam, hpicture⟩, hcart, hparams, fun hvblank henable => ?_, hfault⟩
    have hvalue : v.getLsbD 7 = true := henable
    have hperiod : s.ppu.vblank = true := hvblank
    simp only [hvalue, hperiod, Bool.true_and, Bool.or_not_self]
  case oamData =>
    exact ⟨hstatus, hposition, ⟨hram, hvram, Memory.wf_write (s.ppu.oamAddr.isLt) hoam, hpicture⟩, hcart, hparams, hlatch,
      hfault⟩
  case scroll =>
    unfold writeScroll
    split_ifs <;> exact ⟨hstatus, hposition, ⟨hram, hvram, hoam, hpicture⟩, hcart, hparams, hlatch, hfault⟩
  case addr =>
    unfold writeAddr
    split_ifs <;> exact ⟨hstatus, hposition, ⟨hram, hvram, hoam, hpicture⟩, hcart, hparams, hlatch, hfault⟩
  case data =>
    unfold writeData ppuWrite
    split
    · next c hclaim =>
      obtain ⟨rfl, haddr, -⟩ := Cartridge.ppuWrite_frame hclaim
      obtain ⟨hrange, hprg, hchr, hprgRam⟩ := hcart
      have hindex := Cartridge.chrIndex_lt hrange haddr
      exact ⟨hstatus, hposition, ⟨hram, hvram, hoam, hpicture⟩, ⟨hrange, hprg, Memory.wf_write hindex hchr, hprgRam⟩,
        hparams, hlatch, hfault⟩
    · exact ⟨hstatus, hposition, ⟨hram, Memory.wf_write (mirrorAddr _ _).isLt hvram, hoam, hpicture⟩, hcart, hparams,
        hlatch, hfault⟩
  case mask | status | oamAddr =>
    exact ⟨hstatus, hposition, ⟨hram, hvram, hoam, hpicture⟩, hcart, hparams, hlatch, hfault⟩

/-- A bus write keeps the invariant. -/
theorem busWrite_inv (a : Addr) (v : Byte) {s : State} (h : s.Inv) : (busWrite a v s).Inv := by
  obtain ⟨hstatus, hposition, ⟨hram, hvram, hoam, hpicture⟩, hcart, hparams, hlatch, hfault⟩ := id h
  obtain ⟨c, -, hclaim, heq⟩ | ⟨-, heq⟩ | ⟨-, -, heq⟩ | ⟨-, heq⟩ | ⟨-, heq⟩ | ⟨-, heq⟩ := busWrite_cases a v s <;> rw [heq]
  · exact ⟨hstatus, hposition, ⟨hram, hvram, hoam, hpicture⟩, Cartridge.cpuWrite_legal hcart hclaim, hparams, hlatch, hfault⟩
  · have hcell : a.toNat % 0x800 < 2048 := Nat.mod_lt _ (by decide)
    exact ⟨hstatus, hposition, ⟨Memory.wf_write hcell hram, hvram, hoam, hpicture⟩, hcart, hparams, hlatch, hfault⟩
  · exact ppuRegWrite_inv _ v h
  · obtain ⟨_, _, _, _, _, _, hvblank, hcopied, hdma⟩ := oamDma_frame v s
    rw [hdma]
    exact ⟨hstatus, hposition, ⟨hram, hvram, hcopied hoam, hpicture⟩, hcart, hparams, fun hv => hlatch (hvblank hv), hfault⟩
  · obtain ⟨_, hpads⟩ := controllerWrite_frame v s
    rw [hpads]
    exact h
  · exact h

/-- A bus write does not move the PPU. -/
theorem busWrite_position (a : Addr) (v : Byte) (s : State) :
    (busWrite a v s).ppu.pixelX = s.ppu.pixelX ∧ (busWrite a v s).ppu.pixelY = s.ppu.pixelY ∧
      (busWrite a v s).ppu.frameCount = s.ppu.frameCount := by
  obtain ⟨_, -, -, heq⟩ | ⟨-, heq⟩ | ⟨-, -, heq⟩ | ⟨-, heq⟩ | ⟨-, heq⟩ | ⟨-, heq⟩ := busWrite_cases a v s <;> rw [heq]
  · exact ⟨rfl, rfl, rfl⟩
  · exact ⟨rfl, rfl, rfl⟩
  · obtain ⟨_, _, _, hreg, -, -, hposition⟩ := ppuRegWrite_frame (ppuRegOf a) v s
    rw [hreg]
    exact hposition
  · obtain ⟨_, _, _, _, _, _, -, -, hdma⟩ := oamDma_frame v s
    rw [hdma]
    exact ⟨rfl, rfl, rfl⟩
  · obtain ⟨_, hpads⟩ := controllerWrite_frame v s
    rw [hpads]
    exact ⟨rfl, rfl, rfl⟩
  · exact ⟨rfl, rfl, rfl⟩

theorem acts_busWrite (a : Addr) (v : Byte) (s : State) : ActsTo s (busWrite a v s) :=
  ⟨busWrite_fault a v s, busWrite_cpuCycles a v s, busWrite_position a v s, busWrite_inv a v⟩

/-! ### The stack and the interrupts -/

theorem acts_push (v : Byte) (s : State) : ActsTo s (push v s) :=
  (acts_busWrite (stackPage s.sp) v s).trans (acts_registers _ _ _ _ (s.sp - 1) _ _ _)

theorem acts_pull (s : State) : ActsTo s (pull s).2 :=
  (acts_registers s s.a s.x s.y (s.sp + 1) s.pc s.nmiPending s.stallCycles).trans (busRead_frame _ _).acts

theorem acts_push16 (v : Addr) (s : State) : ActsTo s (push16 v s) := (acts_push _ s).trans (acts_push _ _)

theorem acts_pull16 (s : State) : ActsTo s (pull16 s).2 := (acts_pull s).trans (acts_pull _)

theorem acts_pc (pc : Addr) (s : State) : ActsTo s { s with pc := pc } :=
  acts_registers s s.a s.x s.y s.sp pc s.nmiPending s.stallCycles

theorem acts_takeInterrupt (status : Byte) (vector : Addr) (s : State) : ActsTo s (takeInterrupt status vector s) := by
  have hpushes : ActsTo s (push status (push16 s.pc s)) := (acts_push16 s.pc s).trans (acts_push status _)
  have hflag := hpushes.trans (acts_setFlag (f := .interruptDisable) (by decide) (by decide) true _)
  have hvector := hflag.trans (readPair_reads vector (vector + 1) _).acts
  exact hvector.trans (acts_pc _ _)

/-- A pulled status is legal whatever the byte (10_state.md R15). -/
theorem acts_statusOfPulled (v : Byte) (s : State) : ActsTo s { s with p := statusOfPulled v } :=
  acts_status (fun _ => by simp [getFlag_statusOfPulled])

theorem acts_returnFromInterrupt (s : State) : ActsTo s (returnFromInterrupt s) := by
  rw [returnFromInterrupt_eq]
  exact (acts_registers s s.a s.x s.y (s.sp + 3) _ s.nmiPending s.stallCycles).trans (acts_statusOfPulled _ _)

theorem acts_softwareInterrupt (s : State) : ActsTo s (softwareInterrupt s) :=
  (acts_pc (s.pc + 1) s).trans (acts_takeInterrupt (pushedByBrk s.p) 0xFFFE _)

/-! ### The effects of the instructions -/

theorem acts_loadA (m : Byte) (s : State) : ActsTo s (loadA m s) :=
  (acts_registers s m s.x s.y s.sp s.pc s.nmiPending s.stallCycles).trans (acts_setZN m _)

theorem acts_loadX (m : Byte) (s : State) : ActsTo s (loadX m s) :=
  (acts_registers s s.a m s.y s.sp s.pc s.nmiPending s.stallCycles).trans (acts_setZN m _)

theorem acts_loadY (m : Byte) (s : State) : ActsTo s (loadY m s) :=
  (acts_registers s s.a s.x m s.sp s.pc s.nmiPending s.stallCycles).trans (acts_setZN m _)

theorem acts_addWithCarry (m : Byte) (s : State) : ActsTo s (s.addWithCarry m) :=
  ((acts_setFlag (by decide) (by decide) _ s).trans (acts_setFlag (by decide) (by decide) _ _)).trans
    (acts_loadA (sumByte s.a m (s.flag .carry)) _)

theorem acts_compareFlags (r m : Byte) (s : State) : ActsTo s (s.compareFlags r m) :=
  ((acts_setFlag (by decide) (by decide) _ s).trans (acts_setFlag (by decide) (by decide) _ _)).trans
    (acts_setFlag (by decide) (by decide) _ _)

theorem acts_bitFlags (m : Byte) (s : State) : ActsTo s (s.bitFlags m) :=
  ((acts_setFlag (by decide) (by decide) _ s).trans (acts_setFlag (by decide) (by decide) _ _)).trans
    (acts_setFlag (by decide) (by decide) _ _)

theorem acts_readEffect {n : Mnemonic} {effect : Byte → State → State} (h : readEffect n = some effect) (m : Byte)
    (s : State) : ActsTo s (effect m s) := by
  cases n <;> cases h
  case lda | and | ora | eor => exact acts_loadA _ s
  case ldx => exact acts_loadX m s
  case ldy => exact acts_loadY m s
  case adc | sbc => exact acts_addWithCarry _ s
  case cmp | cpx | cpy => exact acts_compareFlags _ m s
  case bit => exact acts_bitFlags m s

theorem acts_writeBack (o : Operand) (ea : Addr) (v : Byte) (s : State) : ActsTo s (writeBack o ea v s) := by
  by_cases hacc : o = .acc
  · subst hacc
    exact acts_registers s v s.x s.y s.sp s.pc s.nmiPending s.stallCycles
  · rw [writeBack_of_ne_acc hacc]
    exact acts_busWrite ea v s

/-! ### The instructions in IMP format -/

/-- The effect of a mnemonic in IMP format. -/
def impliedEffect : Mnemonic → Option (State → State)
  | .tax => some fun s => loadX s.a s
  | .tay => some fun s => loadY s.a s
  | .txa => some fun s => loadA s.x s
  | .tya => some fun s => loadA s.y s
  | .tsx => some fun s => loadX s.sp s
  | .txs => some fun s => { s with sp := s.x }
  | .inx => some fun s => loadX (s.x + 1) s
  | .iny => some fun s => loadY (s.y + 1) s
  | .dex => some fun s => loadX (s.x - 1) s
  | .dey => some fun s => loadY (s.y - 1) s
  | .rts => some returnSubroutine
  | .pha => some fun s => push s.a s
  | .pla => some pullA
  | .php => some fun s => push (pushedByBrk s.p) s
  | .plp => some pullP
  | .clc => some (State.setFlag .carry false)
  | .sec => some (State.setFlag .carry true)
  | .cli => some (State.setFlag .interruptDisable false)
  | .sei => some (State.setFlag .interruptDisable true)
  | .cld => some (State.setFlag .decimal false)
  | .sed => some (State.setFlag .decimal true)
  | .clv => some (State.setFlag .overflow false)
  | .nop => some id
  | .brk => some softwareInterrupt
  | .rti => some returnFromInterrupt
  | _ => none

theorem exec_implied {i : Instr} {effect : State → State} (h : impliedEffect i.mnemonic = some effect) (s : State) :
    exec i s = .next (impliedInstr effect i.baseCycles s) := by
  cases i <;> simp only [Instr.mnemonic, impliedEffect, reduceCtorEq, Option.some.injEq] at h <;> subst h <;> rfl

theorem acts_impliedEffect {n : Mnemonic} {effect : State → State} (h : impliedEffect n = some effect) (s : State) :
    ActsTo s (effect s) := by
  cases n <;> simp only [impliedEffect, reduceCtorEq, Option.some.injEq] at h <;> subst h
  case tax | tsx | inx | dex => exact acts_loadX _ s
  case tay | iny | dey => exact acts_loadY _ s
  case txa | tya => exact acts_loadA _ s
  case txs => exact acts_registers s s.a s.x s.y s.x s.pc s.nmiPending s.stallCycles
  case rts => exact (acts_pull16 s).trans (acts_pc _ _)
  case pha | php => exact acts_push _ s
  case pla => exact (acts_pull s).trans (acts_loadA _ _)
  case plp => exact (acts_pull s).trans (acts_statusOfPulled _ _)
  case clc | sec | cli | sei | cld | sed | clv => exact acts_setFlag (by decide) (by decide) _ s
  case nop => exact ActsTo.refl s
  case brk => exact acts_softwareInterrupt s
  case rti => exact acts_returnFromInterrupt s

/-! ### What `exec` answers -/

theorem baseCycles_bounds (i : Instr) : 2 ≤ i.baseCycles ∧ i.baseCycles ≤ 7 := by
  cases i <;> simp [Instr.baseCycles]

/-- The page-cross bonus never goes beyond 7 cycles (40_addressing_modes.md R111). -/
theorem baseCycles_of_pgx {i : Instr} (h : i.pgx = true) : i.baseCycles ≤ 6 := by
  cases i <;> cases h <;> exact Nat.le_of_ble_eq_true rfl

theorem pageBonus_le (pgx crossed : Bool) : pageBonus pgx crossed ≤ if pgx then 1 else 0 := by
  cases pgx <;> cases crossed <;> decide

/-- A state that an action has reached, charged 2 to 7 cycles. -/
def Completes (s : State) (outcome : Host.Outcome State Fault Refusal) : Prop :=
  ∃ (n : Nat) (u : State), 2 ≤ n ∧ n ≤ 7 ∧ ActsTo s u ∧ outcome = .next (charge n u)

theorem completes_readInstr {i : Instr} {effect : Byte → State → State} (h : readEffect i.mnemonic = some effect)
    (s : State) : Completes s (exec i s) := by
  obtain ⟨hmin, hmax⟩ := (baseCycles_bounds i)
  have hbonus := pageBonus_le i.pgx (locate i.operand s).1.crossed
  refine ⟨_, _, ?_, ?_, (operand_reads i.operand s).acts.trans (acts_readEffect h _ _), exec_read h s⟩
  · omega
  · split_ifs at hbonus with hpgx
    · have := baseCycles_of_pgx hpgx
      omega
    · omega

theorem completes_storeInstr {i : Instr} {source : State → Byte} (h : storeSource i.mnemonic = some source)
    (s : State) : Completes s (exec i s) :=
  ⟨_, _, (baseCycles_bounds i).1, (baseCycles_bounds i).2, (locate_reads i.operand s).acts.trans (acts_busWrite _ _ _),
    exec_store h s⟩

theorem completes_modifyInstr {i : Instr} {compute : State → Byte → Byte} {carry : Byte → Option Bool}
    (h : modifyEffect i.mnemonic = some (compute, carry)) (s : State) : Completes s (exec i s) := by
  refine ⟨_, _, (baseCycles_bounds i).1, (baseCycles_bounds i).2, ?_, exec_modify h s⟩
  refine (operand_reads i.operand s).acts.trans (ActsTo.trans ?_ ((acts_writeBack _ _ _ _).trans (acts_setZN _ _)))
  split
  · exact acts_setFlag (by decide) (by decide) _ _
  · exact ActsTo.refl _

theorem completes_impliedInstr {i : Instr} {effect : State → State} (h : impliedEffect i.mnemonic = some effect)
    (s : State) : Completes s (exec i s) :=
  ⟨_, _, (baseCycles_bounds i).1, (baseCycles_bounds i).2, acts_impliedEffect h s, exec_implied h s⟩

theorem completes_branch (cond : Bool) (b1 : Byte) (s : State) : Completes s (.next (branch cond b1 s)) := by
  unfold branch
  split_ifs
  · exact ⟨_, _, by split_ifs <;> decide, by split_ifs <;> decide, acts_pc _ s, rfl⟩
  · exact ⟨_, _, by decide, by decide, ActsTo.refl s, rfl⟩

/-- Every defined instruction completes: each is a read, a store, a read-modify-write, an instruction in IMP format, a
branch, a jump or `JSR`. -/
theorem exec_completes {i : Instr} (h : i.mnemonic ≠ .ill) (s : State) : Completes s (exec i s) := by
  cases hm : i.mnemonic
  case ill => exact absurd hm h
  case lda | ldx | ldy | adc | sbc | and | ora | eor | cmp | cpx | cpy | bit =>
    exact completes_readInstr (congrArg readEffect hm) s
  case sta | stx | sty => exact completes_storeInstr (congrArg storeSource hm) s
  case inc | dec | asl | lsr | rol | ror => exact completes_modifyInstr (congrArg modifyEffect hm) s
  case bcc | bcs | beq | bne | bmi | bpl | bvc | bvs =>
    cases i <;> cases hm
    exact completes_branch _ _ s
  case jmp =>
    cases i <;> cases hm
    all_goals exact ⟨_, _, by decide, by decide, (locate_reads _ s).acts.trans (acts_pc _ _), rfl⟩
  case jsr =>
    cases i <;> cases hm
    exact ⟨_, _, by decide, by decide, (acts_push16 _ s).trans (acts_pc _ _), rfl⟩
  all_goals exact completes_impliedInstr (congrArg impliedEffect hm) s

end Sys2Proof.Machine
end

section
/-! PROOFS about the PPU's clocks, the fetch and the machine step (46_ppu_registers_and_timing.md R235 to R239;
30_encoding.md R96; 60_exceptions.md R301, R306; 70_reset_and_hazards.md R326). -/

namespace Sys2Proof.Machine

/-! ### PPU clocks -/

/-- The events of a position keep the invariant: entering vblank sets the latch if NMIs are enabled (46 R237). -/
theorem positionEvents_inv {s : State} (h : s.Inv) : (positionEvents s).Inv := by
  obtain ⟨hstatus, hposition, ⟨hram, hvram, hoam, hpicture⟩, hcart, hparams, hlatch, hfault⟩ := id h
  by_cases henter : s.ppu.pixelY = 241 ∧ s.ppu.pixelX = 1
  · rw [positionEvents_vblankEnter henter.1 henter.2, vblankEnter_eq]
    exact ⟨hstatus, hposition, ⟨hram, hvram, hoam, hpicture⟩, hcart, hparams,
      fun _ henable => Bool.or_eq_true_iff.mpr (.inr henable), hfault⟩
  by_cases hleave : s.ppu.pixelY = 261 ∧ s.ppu.pixelX = 1
  · rw [positionEvents_vblankLeave hleave.1 hleave.2]
    exact ⟨hstatus, hposition, ⟨hram, hvram, hoam, hpicture⟩, hcart, hparams, fun hv => (Bool.false_ne_true hv).elim, hfault⟩
  by_cases hvisible : s.ppu.pixelY ≤ 239 ∧ s.ppu.pixelX ≤ 255
  · rw [positionEvents_visible hvisible.1 hvisible.2]
    exact ⟨hstatus, hposition, ⟨hram, hvram, hoam, Memory.wf_write (by omega) hpicture⟩, hcart, hparams, hlatch, hfault⟩
  · rwa [positionEvents_idle henter hleave hvisible]

/-- The clocks since the first position of frame 0 (46 R235, R238). -/
def Ppu.clock (p : Ppu) : Nat := 89342 * p.frameCount + 341 * p.pixelY + p.pixelX

/-- A clock moves the PPU to the next position (46 R235). -/
theorem ppuTick_clock {s : State} (h : s.PositionLegal) :
    (ppuTick s).PositionLegal ∧ (ppuTick s).ppu.clock = s.ppu.clock + 1 := by
  obtain ⟨hx, hy⟩ := id h
  rw [ppuTick_eq h]
  simp only [Ppu.clock, State.PositionLegal]
  split_ifs <;> omega

theorem ppuTick_inv {s : State} (h : s.Inv) : (ppuTick s).Inv := by
  have hmoved := (ppuTick_clock h.2.1).1
  obtain ⟨hstatus, -, hmemory, hcart, hparams, hlatch, hfault⟩ := positionEvents_inv h
  rw [ppuTick, advancePosition_eq] at hmoved ⊢
  exact ⟨hstatus, hmoved, hmemory, hcart, hparams, hlatch, hfault⟩

theorem ppuTicks_succ (n : Nat) (s : State) : ppuTicks (n + 1) s = ppuTick (ppuTicks n s) := ppuTicks_add n 1 s

theorem ppuTicks_clock {s : State} (n : Nat) (h : s.PositionLegal) :
    (ppuTicks n s).PositionLegal ∧ (ppuTicks n s).ppu.clock = s.ppu.clock + n := by
  induction n with
  | zero => exact ⟨h, rfl⟩
  | succ n ih =>
    obtain ⟨hlegal, hclock⟩ := ih
    rw [ppuTicks_succ, ← Nat.add_assoc, ← hclock]
    exact ppuTick_clock hlegal

theorem ppuTicks_inv {s : State} (n : Nat) (h : s.Inv) : (ppuTicks n s).Inv := by
  induction n with
  | zero => exact h
  | succ n ih =>
    rw [ppuTicks_succ]
    exact ppuTick_inv ih

/-- Only the two vblank positions change the vblank flag (46 R237). -/
theorem ppuTick_vblank (s : State) :
    (ppuTick s).ppu.vblank =
      if s.ppu.pixelY = 241 ∧ s.ppu.pixelX = 1 then true
      else if s.ppu.pixelY = 261 ∧ s.ppu.pixelX = 1 then false else s.ppu.vblank := by
  rw [ppuTick, advancePosition_eq]
  dsimp only
  split_ifs with henter hleave
  · rw [positionEvents_vblankEnter henter.1 henter.2, vblankEnter_eq]
  · rw [positionEvents_vblankLeave hleave.1 hleave.2]
    rfl
  · exact (positionEvents_keeps_vblank henter hleave).1

/-- From the first position of a frame, the position within that frame counts the clocks. -/
theorem ppuTicks_position {s : State} {n : Nat} (hx : s.ppu.pixelX = 0) (hy : s.ppu.pixelY = 0) (hn : n < 89342) :
    (ppuTicks n s).ppu.frameCount = s.ppu.frameCount ∧ (ppuTicks n s).ppu.pixelY = n / 341 ∧
      (ppuTicks n s).ppu.pixelX = n % 341 := by
  obtain ⟨⟨hxlegal, hylegal⟩, hclock⟩ := ppuTicks_clock n (s := s) ⟨by omega, by omega⟩
  simp only [Ppu.clock, hx, hy] at hclock
  omega

/-- The last clock of a frame completes it and leads back to the first position (46 R238). -/
theorem ppuTicks_frame {s : State} {n : Nat} (hx : s.ppu.pixelX = 0) (hy : s.ppu.pixelY = 0) (hn : n = 89342) :
    (ppuTicks n s).ppu.frameCount = s.ppu.frameCount + 1 ∧ (ppuTicks n s).ppu.frameComplete = true ∧
      (ppuTicks n s).ppu.pixelX = 0 ∧ (ppuTicks n s).ppu.pixelY = 0 := by
  obtain ⟨m, rfl⟩ : ∃ m, n = m + 1 := Nat.exists_eq_add_one.mpr (by omega)
  obtain ⟨hframe, hline, hcolumn⟩ := ppuTicks_position hx hy (show m < 89342 by omega)
  have hlast : m % 341 = 340 ∧ m / 341 = 261 := by omega
  rw [ppuTicks_succ, ppuTick_eq ⟨by omega, by omega⟩, hline, hcolumn, hframe]
  simp [hlast]

/-- From the first position of a frame, the vblank flag changes with the clocks 82182 and 89002 (46 R239). -/
theorem ppuTicks_vblank {s : State} {n : Nat} (hx : s.ppu.pixelX = 0) (hy : s.ppu.pixelY = 0) (hn : n ≤ 89342) :
    (ppuTicks n s).ppu.vblank =
      if n ≤ 82182 then s.ppu.vblank else if n ≤ 89002 then true else false := by
  induction n with
  | zero => rfl
  | succ n ih =>
    obtain ⟨-, hline, hcolumn⟩ := ppuTicks_position hx hy (show n < 89342 by omega)
    rw [ppuTicks_succ, ppuTick_vblank, hline, hcolumn, ih (by omega)]
    grind

/-! ### The fetch -/

/-- A fetch changes at most what reads change, and `PC`. -/
theorem acts_fetch (s : State) : ActsTo s (fetch s).2 := by
  have hopcode : ActsTo s { (busRead s.pc s).2 with pc := s.pc + 1 } := (busRead_frame s.pc s).acts.trans (acts_pc _ _)
  obtain ⟨u, hreads, hrest⟩ := readCode_reads (operandCount (busRead s.pc s).1) { (busRead s.pc s).2 with pc := s.pc + 1 }
  refine hopcode.trans ?_
  rw [fetch]
  dsimp only
  rw [hrest]
  exact hreads.acts.trans (acts_pc _ u)

/-- A fetch decodes the bytes read from `PC` on (30 R96). -/
theorem fetch_of_encode {i : Instr} {s : State} (hwf : i.wellFormed = true) (h : (readCode i.length s).1 = encode i) :
    fetch s = (i, (readCode i.length s).2) := by
  have hlength : i.length = operandCount i.opcode + 1 := by
    rw [operandCount_opcode hwf]
    exact i.operand.length_bytes
  rw [hlength, readCode, encode] at h
  obtain ⟨hopcode, hoperand⟩ := List.cons.inj h
  have hentry := instrOf_encode hwf []
  rw [List.append_nil, ← hoperand] at hentry
  rw [fetch, hlength, readCode]
  dsimp only
  rw [hopcode, hentry]

/-- An undefined opcode is fetched alone (30 R94). -/
theorem fetch_of_undefined {s : State} (h : isUndefinedOpcode (busRead s.pc s).1 = true) :
    fetch s = (.ill (busRead s.pc s).1, { (busRead s.pc s).2 with pc := s.pc + 1 }) := by
  have hentry (b1 b2 : Byte) := (instrOf_eq_ill_iff (busRead s.pc s).1 b1 b2).mpr h
  have hcount : operandCount (busRead s.pc s).1 = 0 := by
    rw [operandCount, hentry]
    rfl
  rw [fetch, hcount]
  dsimp only
  rw [hentry]
  rfl

theorem fetch_of_defined {s : State} (h : isUndefinedOpcode (busRead s.pc s).1 = false) : (fetch s).1.mnemonic ≠ .ill :=
  fun hill => by
    rw [fetch, instrOf_mnemonic_eq_ill_iff, h] at hill
    cases hill

/-! ### The CPU action and the step -/

/-- What a CPU action can be: an action that completes and is charged its cycles, or the fault of an undefined opcode
(60 R301, R306). -/
theorem cpuAction_cases (s : State) :
    (∃ (n : Nat) (u : State), ActsTo s u ∧ cpuAction s = .next (charge n u)) ∨
    (s.stallCycles = 0 ∧ s.nmiPending = false ∧ s.params.illegalOpcodePolicy = .fault ∧
      isUndefinedOpcode (busRead s.pc s).1 = true ∧
      cpuAction s =
        .next
          { (busRead s.pc s).2 with
            pc := s.pc + 1, fault := some (.illegalOpcode (busRead s.pc s).1 s.pc) }) := by
  by_cases hstall : s.stallCycles = 0
  swap
  · exact .inl ⟨_, _, acts_registers s s.a s.x s.y s.sp s.pc s.nmiPending 0, cpuAction_of_stall hstall⟩
  by_cases hnmi : s.nmiPending = true
  · refine .inl ⟨_, _, ActsTo.trans ?_ (acts_takeInterrupt _ _ _), cpuAction_of_nmi hstall hnmi⟩
    exact acts_registers s s.a s.x s.y s.sp s.pc false s.stallCycles
  have haction : cpuAction s = exec (fetch s).1 (fetch s).2 := by
    simp only [cpuAction, hstall, hnmi, ne_eq, not_true_eq_false, if_false, Bool.false_eq_true]
  rw [haction]
  by_cases hop : isUndefinedOpcode (busRead s.pc s).1 = true
  swap
  · obtain ⟨n, u, -, -, hacts, hnext⟩ := exec_completes (fetch_of_defined (by simpa using hop)) (fetch s).2
    exact .inl ⟨n, u, (acts_fetch s).trans hacts, hnext⟩
  have hfetched := acts_fetch s
  rw [fetch_of_undefined hop] at hfetched ⊢
  cases hpolicy : s.params.illegalOpcodePolicy with
  | nop => exact .inl ⟨2, _, hfetched, exec_ill_of_nop _ ((congrArg _ (busRead_params s.pc s)).trans hpolicy)⟩
  | fault =>
    refine .inr ⟨hstall, by simpa using hnmi, rfl, hop, ?_⟩
    have hback : s.pc + 1 - 1 = s.pc := BitVec.add_sub_cancel ..
    dsimp only
    rw [exec_ill_of_fault (s := { (busRead s.pc s).2 with pc := s.pc + 1 }) _
      ((congrArg _ (busRead_params s.pc s)).trans hpolicy), hback]

/-- A step that answers a state is a CPU action of a running machine, and the PPU's catching up (70 R326). -/
theorem step_eq_next {s t : State} (h : step s = .next t) :
    s.fault = none ∧ s.cart.inRange = true ∧ ∃ u, cpuAction s = .next u ∧ t = catchUp s u := by
  unfold step at h
  split at h
  · cases h
  · next hfault =>
    split_ifs at h with hcart
    refine ⟨hfault, hcart, ?_⟩
    cases haction : cpuAction s <;> rw [haction] at h <;> cases h
    exact ⟨_, rfl, rfl⟩

/-! ### The obligations -/

/-- Settles O60: a charged action keeps the invariant, and so do the clocks; a fault arises under the policy `fault` alone. -/
theorem stepKeepsInvariant : Obligations.StepKeepsInvariant := by
  intro s t hinv hstep
  obtain ⟨-, -, u, haction, rfl⟩ := step_eq_next hstep
  refine ppuTicks_inv _ ?_
  obtain ⟨n, w, hacts, heq⟩ | ⟨-, -, hpolicy, -, heq⟩ := cpuAction_cases s
  · obtain rfl := Host.Outcome.next.inj (heq.symm.trans haction)
    exact hacts.inv hinv
  · obtain rfl := Host.Outcome.next.inj (heq.symm.trans haction)
    obtain ⟨hstatus, hposition, hmemory, hcart, hparams, hlatch, -⟩ := (busRead_frame s.pc s).acts.inv hinv
    refine ⟨hstatus, hposition, hmemory, hcart, hparams, hlatch, fun hnop => ?_⟩
    have hfault : (busRead s.pc s).2.params.illegalOpcodePolicy = .fault := (congrArg _ (busRead_params s.pc s)).trans hpolicy
    cases hfault.symm.trans hnop

/-- Settles O28: `exec_completes` with the charge written out. -/
theorem cycleBounds : Obligations.CycleBounds := by
  intro i s hdefined
  obtain ⟨n, u, hmin, hmax, hacts, hnext⟩ := exec_completes hdefined s
  refine ⟨_, hnext, ?_, ?_⟩ <;>
  · rw [charge_cpuCycles, hacts.cycles]
    omega

/-- Settles O50: the clock counts the position, and the vblank flag changes at two positions. -/
theorem frameTiming : Obligations.FrameTiming := by
  intro s n hx hy
  refine ⟨fun h => ?_, fun h h' => ?_, fun h h' => ?_, ppuTicks_position hx hy, ppuTicks_frame hx hy rfl⟩
  · rw [ppuTicks_vblank hx hy (by omega), if_pos h]
  · rw [ppuTicks_vblank hx hy (by omega), if_neg (by omega), if_pos h']
  · rw [ppuTicks_vblank hx hy h', if_neg (by omega), if_neg (by omega)]

/-- Settles O55: the fetch gives the encoded instruction, `exec` answers, and the clocks follow. -/
theorem stepRunsTheInstruction : Obligations.StepRunsTheInstruction := by
  intro s i ⟨hfault, hcart, hstall, hnmi⟩ hwf hbytes
  obtain ⟨t, ht⟩ := exec_next i (readCode i.length s).2
  refine ⟨t, ht, ?_⟩
  have haction : cpuAction s = .next t := by
    simp only [cpuAction, hstall, hnmi, fetch_of_encode hwf hbytes, ht, ne_eq, not_true_eq_false, if_false,
      Bool.false_eq_true]
  rw [step_of_running hfault hcart, haction]
  rfl

/-- Settles O56: each byte is stored, so its read changes nothing, and the next is read at the address after it. -/
theorem fetchFromMemory : Obligations.FetchFromMemory := by
  intro n s hstored
  induction n generalizing s with
  | zero => simp [readCode]
  | succ n ih =>
    have hnext (k : Nat) : s.pc + 1 + BitVec.ofNat 16 k = s.pc + BitVec.ofNat 16 (k + 1) := by
      rw [BitVec.add_assoc, Nat.add_comm k 1, BitVec.ofNat_add]
      rfl
    obtain ⟨v, hv⟩ := busRead_of_holdsCode (hstored 0 (by omega))
    have hfirst : busRead s.pc s = (v, s) := by
      rw [← hv s rfl rfl, BitVec.add_zero]
    have hrest := ih { s with pc := s.pc + 1 } (fun k hk => by
      have := hstored (k + 1) (by omega)
      rw [← hnext] at this
      exact this)
    have hsame (k : Nat) (hk : k < n) :
        (busRead (s.pc + 1 + BitVec.ofNat 16 k) { s with pc := s.pc + 1 }).1 =
          (busRead (s.pc + BitVec.ofNat 16 (k + 1)) s).1 := by
      obtain ⟨w, hw⟩ := busRead_of_holdsCode (hstored (k + 1) (by omega))
      rw [hnext, hw { s with pc := s.pc + 1 } rfl rfl, hw s rfl rfl]
    have hone : (1 : Addr).toNat = 1 := rfl
    have hpc : BitVec.ofNat 16 ((s.pc + 1).toNat + n) = BitVec.ofNat 16 (s.pc.toNat + (n + 1)) := by
      apply BitVec.eq_of_toNat_eq
      simp only [BitVec.toNat_ofNat, BitVec.toNat_add, hone]
      omega
    rw [readCode, hfirst]
    dsimp only at hrest ⊢
    rw [hrest, hpc, List.range_succ_eq_map, List.map_cons, List.map_map]
    refine congrArg₂ _ (congrArg₂ _ ?_ (List.map_congr_left fun k hk => hsame k (List.mem_range.mp hk))) rfl
    rw [BitVec.add_zero, hfirst]

/-- Settles O58: only the fault of an undefined opcode is an action that sets a fault, and it is charged nothing. -/
theorem onlyUndefinedOpcodesStop : Obligations.OnlyUndefinedOpcodesStop := by
  refine fun s => ⟨fun r h => ?_, fun h hcart => ?_, fun h hcart => ?_⟩
  · simp only [step, h]
  · simp only [step, h, hcart, Bool.false_eq_true, if_false]
  rw [step_of_running h hcart]
  obtain ⟨n, u, hacts, heq⟩ | ⟨hstall, hnmi, hpolicy, hop, heq⟩ := cpuAction_cases s
  · rw [heq]
    exact ⟨_, rfl, .inl ((catchUp_ticks s _).fault.trans (hacts.fault.trans h))⟩
  · rw [heq]
    have hticks := catchUp_ticks s { (busRead s.pc s).2 with
      pc := s.pc + 1, fault := some (.illegalOpcode (busRead s.pc s).1 s.pc) }
    exact ⟨_, rfl, .inr ⟨hstall, hnmi, hpolicy, hop, hticks.fault, hticks.pc,
      hticks.cpuCycles.trans (busRead_cpuCycles s.pc s)⟩⟩

/-- Settles O59: an action does not move the PPU, and each of its clocks moves it by one position. -/
theorem threeClocksPerCycle : Obligations.ThreeClocksPerCycle := by
  intro s t hlegal hstep
  obtain ⟨-, -, u, haction, rfl⟩ := step_eq_next hstep
  obtain ⟨hcycles, hx, hy, hframe⟩ : s.cpuCycles ≤ u.cpuCycles ∧ u.ppu.pixelX = s.ppu.pixelX ∧
      u.ppu.pixelY = s.ppu.pixelY ∧ u.ppu.frameCount = s.ppu.frameCount := by
    obtain ⟨n, w, hacts, heq⟩ | ⟨-, -, -, -, heq⟩ := cpuAction_cases s
    · obtain rfl := Host.Outcome.next.inj (heq.symm.trans haction)
      exact ⟨by rw [charge_cpuCycles, hacts.cycles]; omega, hacts.position⟩
    · obtain rfl := Host.Outcome.next.inj (heq.symm.trans haction)
      exact ⟨(busRead_cpuCycles s.pc s).ge, (busRead_frame s.pc s).acts.position⟩
  have hulegal : u.PositionLegal := by
    rw [State.PositionLegal, hx, hy]
    exact hlegal
  obtain ⟨hafter, hclock⟩ := ppuTicks_clock (3 * (u.cpuCycles - s.cpuCycles)) hulegal
  have hend : (catchUp s u).cpuCycles = u.cpuCycles := (catchUp_ticks s u).cpuCycles
  rw [hend]
  refine ⟨hcycles, hafter, hclock.trans ?_⟩
  rw [Ppu.clock, hx, hy, hframe]

end Sys2Proof.Machine
end

section
/-! PROOFS of the frames of the instructions (41_load_store_transfer.md to 45_stack_flags_system.md): what the reading and the
storing instructions leave unchanged, that the stack stays in page 1 (10_state.md R12), and that returns match entries
(R190, R191, R212, R213, R305). -/

namespace Sys2Proof.Machine

/-! ### The stack -/

/-- `t` is `s` after changes of RAM in page 1 alone, for a RAM in canonical form. -/
def StackOnly (s t : State) : Prop :=
  Memory.wf 2048 s.ram = true →
    Memory.wf 2048 t.ram = true ∧
      ∀ k : Nat, ¬ (0x100 ≤ k ∧ k ≤ 0x1FF) → Memory.read t.ram k = Memory.read s.ram k

theorem StackOnly.of_ram {s t : State} (h : t.ram = s.ram) : StackOnly s t := by
  intro hwf
  rw [h]
  exact ⟨hwf, fun _ _ => rfl⟩

theorem StackOnly.trans {s t u : State} (h : StackOnly s t) (g : StackOnly t u) : StackOnly s u := by
  intro hwf
  obtain ⟨hwf', hread⟩ := h hwf
  obtain ⟨hwf'', hread'⟩ := g hwf'
  exact ⟨hwf'', fun k hk => (hread' k hk).trans (hread k hk)⟩

theorem stackOnly_push (v : Byte) (s : State) : StackOnly s (push v s) := by
  intro hwf
  have := s.sp.isLt
  rw [push_eq]
  exact ⟨Memory.wf_write (by omega) hwf, fun k hk => Memory.read_write_other (by omega) hwf⟩

theorem stackOnly_push16 (v : Addr) (s : State) : StackOnly s (push16 v s) :=
  (stackOnly_push _ s).trans (stackOnly_push _ _)

/-- An interrupt entry pushes three bytes; its vector's reads leave RAM alone. -/
theorem stackOnly_takeInterrupt (status : Byte) (vector : Addr) (s : State) :
    StackOnly s (takeInterrupt status vector s) := by
  have hpushes : StackOnly s (push status (push16 s.pc s)) := (stackOnly_push16 s.pc s).trans (stackOnly_push status _)
  refine hpushes.trans (StackOnly.of_ram ?_)
  exact (readPair_reads vector (vector + 1) ((push status (push16 s.pc s)).setFlag .interruptDisable true)).ram

/-! ### Returns -/

theorem sub_one_toNat (sp : Byte) : (sp - 1).toNat = (sp.toNat + 255) % 256 := by
  rw [byte_sub_one, BitVec.toNat_ofNat]

theorem sub_two_toNat (sp : Byte) : (sp - 2).toNat = (sp.toNat + 254) % 256 := by
  rw [BitVec.toNat_sub, Nat.add_comm]
  rfl

/-- The two cells that `JSR` pushes hold the two bytes. -/
theorem read_pushed16 {ram : Memory 8} (hwf : Memory.wf 2048 ram = true) (sp high low : Byte) :
    let pushed := Memory.write (Memory.write ram (0x100 + sp.toNat) high) (0x100 + (sp - 1).toNat) low
    Memory.wf 2048 pushed = true ∧ Memory.read pushed (0x100 + (sp - 1).toNat) = low ∧
      Memory.read pushed (0x100 + sp.toNat) = high := by
  have hsp := sp.isLt
  have hone := sub_one_toNat sp
  have hwf1 := Memory.wf_write (v := high) (show 0x100 + sp.toNat < 2048 by omega) hwf
  refine ⟨Memory.wf_write (by omega) hwf1, Memory.read_write_same hwf1, ?_⟩
  rw [Memory.read_write_other (by omega) hwf1, Memory.read_write_same hwf]

/-- The three cells that an interrupt entry pushes hold the three bytes. -/
theorem read_pushed {ram : Memory 8} (hwf : Memory.wf 2048 ram = true) (sp high low status : Byte) :
    let pushed :=
      Memory.write (Memory.write (Memory.write ram (0x100 + sp.toNat) high) (0x100 + (sp - 1).toNat) low)
        (0x100 + (sp - 2).toNat) status
    Memory.read pushed (0x100 + (sp - 2).toNat) = status ∧ Memory.read pushed (0x100 + (sp - 1).toNat) = low ∧
      Memory.read pushed (0x100 + sp.toNat) = high := by
  have hsp := sp.isLt
  have hone := sub_one_toNat sp
  have htwo := sub_two_toNat sp
  obtain ⟨hwf2, hlow, hhigh⟩ := read_pushed16 hwf sp high low
  refine ⟨Memory.read_write_same hwf2, ?_, ?_⟩
  · rw [Memory.read_write_other (by omega) hwf2, hlow]
  · rw [Memory.read_write_other (by omega) hwf2, hhigh]

/-- The two pushed bytes of an address give it back. -/
theorem ofNat_bytes (v : Addr) :
    256 * (BitVec.ofNat 8 (v.toNat / 256)).toNat + (BitVec.ofNat 8 (v.toNat % 256)).toNat = v.toNat := by
  rw [← hiByte_eq, ← loByte_eq, ← word16_toNat, word16_bytes]

/-- The pulls of a return reach the cells of the entry's pushes. -/
theorem sub_add_of_push (sp : Byte) :
    sp - 2 + 1 = sp - 1 ∧ sp - 2 + 2 = sp ∧ sp - 3 + 1 = sp - 2 ∧ sp - 3 + 2 = sp - 1 ∧ sp - 3 + 3 = sp := by
  refine ⟨?_, ?_, ?_, ?_, ?_⟩ <;> bv_omega

/-- `RTI` after an interrupt entry with a given `PC` and pushed status: `PC`, `P` and `SP` are back. -/
theorem rti_of_entry {s t : State} {pc : Addr} {status : Byte} (hwf : Memory.wf 2048 s.ram = true)
    (hsp : t.sp = s.sp - 3)
    (hram : t.ram =
      Memory.write
        (Memory.write (Memory.write s.ram (0x100 + s.sp.toNat) (BitVec.ofNat 8 (pc.toNat / 256)))
          (0x100 + (s.sp - 1).toNat) (BitVec.ofNat 8 (pc.toNat % 256)))
        (0x100 + (s.sp - 2).toNat) status) :
    exec .rti t =
      .next { t with p := statusOfPulled status, pc := pc, sp := s.sp, cpuCycles := t.cpuCycles + 6 } := by
  obtain ⟨-, -, h1, h2, h3⟩ := sub_add_of_push s.sp
  obtain ⟨hstatus, hlow, hhigh⟩ :=
    read_pushed hwf s.sp (BitVec.ofNat 8 (pc.toNat / 256)) (BitVec.ofNat 8 (pc.toNat % 256)) status
  refine (congrArg Host.Outcome.next (impliedInstr_returnFromInterrupt 6 t)).trans ?_
  rw [hsp, h1, h2, h3, hram, hstatus, hlow, hhigh, ofNat_bytes, BitVec.ofNat_toNat, BitVec.setWidth_eq]

/-- `RTS` after a `JSR` that pushed `PC - 1`: `PC` and `SP` are back. -/
theorem rts_of_jsr {s t : State} (hwf : Memory.wf 2048 s.ram = true) (hsp : t.sp = s.sp - 2)
    (hram : t.ram =
      Memory.write (Memory.write s.ram (0x100 + s.sp.toNat) (BitVec.ofNat 8 ((s.pc - 1).toNat / 256)))
        (0x100 + (s.sp - 1).toNat) (BitVec.ofNat 8 ((s.pc - 1).toNat % 256))) :
    exec .rts t = .next { t with pc := s.pc, sp := s.sp, cpuCycles := t.cpuCycles + 6 } := by
  obtain ⟨h1, h2, -, -, -⟩ := sub_add_of_push s.sp
  obtain ⟨-, hlow, hhigh⟩ :=
    read_pushed16 hwf s.sp (BitVec.ofNat 8 ((s.pc - 1).toNat / 256)) (BitVec.ofNat 8 ((s.pc - 1).toNat % 256))
  have hpc : BitVec.ofNat 16 ((s.pc - 1).toNat + 1) = s.pc := by
    rw [BitVec.ofNat_add, BitVec.ofNat_toNat, BitVec.setWidth_eq]
    exact BitVec.sub_add_cancel s.pc 1
  refine (congrArg Host.Outcome.next (impliedInstr_returnSubroutine 6 t)).trans ?_
  rw [hsp, h1, h2, hram, hlow, hhigh, ofNat_bytes, hpc]

/-! ### The instructions that only read -/

/-- A load's flags are those of `SetZN`. -/
theorem flag_loads (g : Flag) (m : Byte) (s : State) :
    (loadA m s).flag g = (s.setZN m).flag g ∧ (loadX m s).flag g = (s.setZN m).flag g ∧
      (loadY m s).flag g = (s.setZN m).flag g :=
  ⟨rfl, rfl, rfl⟩

/-- The effect of a reading instruction on the registers and the flags, by mnemonic. -/
theorem readEffect_frame {n : Mnemonic} {effect : Byte → State → State} (h : readEffect n = some effect) (m : Byte)
    (s : State) :
    let t := effect m s
    t = { s with a := t.a, x := t.x, y := t.y, p := t.p } ∧
      (n ∉ [Mnemonic.lda, .adc, .sbc, .and, .ora, .eor] → t.a = s.a) ∧ (n ≠ .ldx → t.x = s.x) ∧ (n ≠ .ldy → t.y = s.y) ∧
      (∀ f ∈ [Flag.interruptDisable, .decimal, .breakBit, .unused], t.flag f = s.flag f) ∧
      (n ∉ [Mnemonic.adc, .sbc, .bit] → t.flag .overflow = s.flag .overflow) ∧
      (n ∉ [Mnemonic.adc, .sbc, .cmp, .cpx, .cpy] → t.flag .carry = s.flag .carry) := by
  cases n <;> cases h
  case lda | and | ora | eor =>
    exact ⟨rfl, by simp, fun _ => rfl, fun _ => rfl, by simp [andA, orA, eorA, flag_loads],
      by simp [andA, orA, eorA, flag_loads], by simp [andA, orA, eorA, flag_loads]⟩
  case ldx | ldy =>
    exact ⟨rfl, fun _ => rfl, by simp, by simp, by simp [flag_loads], by simp [flag_loads], by simp [flag_loads]⟩
  case adc | sbc => exact ⟨rfl, by simp, fun _ => rfl, fun _ => rfl, by simp [addA, subA], by simp, by simp⟩
  case cmp | cpx | cpy =>
    exact ⟨rfl, fun _ => rfl, fun _ => rfl, fun _ => rfl, by simp [compareA, compareX, compareY],
      by simp [compareA, compareX, compareY], by simp⟩
  case bit => exact ⟨rfl, fun _ => rfl, fun _ => rfl, fun _ => rfl, by simp, by simp, by simp⟩

/-- A mnemonic of the twelve that only read their operand has an effect. -/
theorem readEffect_of_mem {n : Mnemonic}
    (h : n ∈ [Mnemonic.lda, .ldx, .ldy, .adc, .sbc, .and, .ora, .eor, .cmp, .cpx, .cpy, .bit]) :
    ∃ effect, readEffect n = some effect := by
  fin_cases h <;> exact ⟨_, rfl⟩

/-- What reads and a change of the registers leave of the memories and of the state outside the CPU. -/
theorem ReadsTo.same {s u t : State} (h : ReadsTo s u)
    (ht : t = { u with a := t.a, x := t.x, y := t.y, p := t.p }) :
    SameMemories s t ∧ SameButReadEffects s t := by
  obtain ⟨_, _, _, _, _, _, -, rfl⟩ := h
  rw [ht]
  exact ⟨⟨fun _ => rfl, fun _ => rfl, fun _ => rfl, rfl⟩, rfl, rfl, rfl, rfl, rfl, rfl, rfl, rfl⟩

/-! ### The instructions that store -/

/-- A read of RAM as an operand changes nothing. -/
theorem operandByte_state_of_ram {o : Operand} {ea : Addr} (h : ea.toNat ≤ 0x1FFF) (s : State) :
    (operandByte o ea s).2 = s := by
  cases o
  case acc | imm => rfl
  all_goals exact congrArg Prod.snd (busRead_at_ram s h)

/-- Carry after a read-modify-write: unchanged if there is none to set. -/
def State.setCarry (c : Option Bool) (s : State) : State :=
  match c with
  | some b => s.setFlag .carry b
  | none => s

theorem State.flag_setCarry {f : Flag} (h : f ≠ .carry) (c : Option Bool) (s : State) :
    (s.setCarry c).flag f = s.flag f := by
  cases c
  · rfl
  · simp [State.setCarry, h]

/-- Setting Carry changes `P` alone. -/
theorem State.setCarry_eq (c : Option Bool) (s : State) : s.setCarry c = { s with p := (s.setCarry c).p } := by
  cases c <;> rfl

/-- A read-modify-write of memory is one bus write after its reads, then Carry, then Zero and Negative. -/
theorem modifyInstr_of_memory {o : Operand} (hacc : o ≠ .acc) (compute : State → Byte → Byte)
    (carry : Byte → Option Bool) (base : Nat) (s : State) :
    let ea := (locate o s).1.ea
    let m := operandByte o ea (locate o s).2
    let r := compute m.2 m.1
    modifyInstr compute carry o base s =
      charge base (State.setZN r (State.setCarry (carry m.1) (busWrite ea r m.2))) := by
  intro ea m r
  rw [← writeBack_of_ne_acc hacc]
  cases hc : carry m.1
  · simp only [modifyInstr, State.setCarry, ea, m, r, hc]
  · simp only [modifyInstr, State.setCarry, ← writeBack_setFlag, ea, m, r, hc]

/-- `exec i s` is one bus write at the effective address, after reads that change nothing if that lies in RAM, then a new `P` with
at most Carry, Zero and Negative changed; a plain store writes its register and leaves `P` alone. -/
def WritesOnce (i : Instr) (s : State) : Prop :=
  let ea := (locate i.operand s).1.ea
  ∃ (u : State) (v p : Byte) (cycles : Nat),
    exec i s = .next { busWrite ea v u with p := p, cpuCycles := cycles } ∧ ReadsTo s u ∧
    (ea.toNat ≤ 0x1FFF → u = s) ∧ (∀ f : Flag, f ∉ [Flag.carry, .zero, .negative] → getFlag f p = s.flag f) ∧
    (∀ source, storeSource i.mnemonic = some source → v = source s ∧ p = s.p)

theorem writesOnce_of_store {i : Instr} {s : State} {source : State → Byte} (h : storeSource i.mnemonic = some source)
    (hmode : (locate i.operand s).2 = s) : WritesOnce i s := by
  refine ⟨s, source s, s.p, s.cpuCycles + i.baseCycles, ?_, ReadsTo.refl s, fun _ => rfl, fun _ _ => rfl, fun _ hs => ?_⟩
  · rw [exec_store_eq h hmode, hmode, ← busWrite_p (locate i.operand s).1.ea (source s) s]
  · obtain rfl := Option.some.inj (h.symm.trans hs)
    exact ⟨rfl, rfl⟩

theorem writesOnce_of_modify {i : Instr} {s : State} {compute : State → Byte → Byte} {carry : Byte → Option Bool}
    (h : modifyEffect i.mnemonic = some (compute, carry)) (hplain : storeSource i.mnemonic = none)
    (hacc : i.operand ≠ .acc) (hmode : (locate i.operand s).2 = s) : WritesOnce i s := by
  have hexec := exec_modify h s
  rw [modifyInstr_of_memory hacc, State.setCarry_eq] at hexec
  refine ⟨_, _, _, _, hexec, operand_reads i.operand s, fun hram => ?_, fun f hf => ?_, fun source hs => ?_⟩
  · rw [operandByte_state_of_ram hram, hmode]
  · simp only [List.mem_cons, List.not_mem_nil, or_false, not_or] at hf
    obtain ⟨hcarry, hzero, hnegative⟩ := hf
    have hkept := State.flag_setCarry hcarry
    simp only [State.flag] at hkept
    simp [hzero, hnegative, hkept, State.flag, (operand_reads i.operand s).p]
  · rw [hplain] at hs
    cases hs

/-- The nine instructions that store, in their memory formats. -/
theorem writesOnce_of_mem {i : Instr} {s : State}
    (h : i.mnemonic ∈ [Mnemonic.sta, .stx, .sty, .inc, .dec, .asl, .lsr, .rol, .ror]) (hacc : i.operand ≠ .acc) :
    WritesOnce i s := by
  have hmode : (locate i.operand s).2 = s := locate_operand_state (fun hjmp => by simp [hjmp] at h) s
  cases hm : i.mnemonic
  case sta | stx | sty => exact writesOnce_of_store (congrArg storeSource hm) hmode
  case inc | dec | asl | lsr | rol | ror =>
    exact writesOnce_of_modify (congrArg modifyEffect hm) (congrArg storeSource hm) hacc hmode
  all_goals simp [hm] at h

/-- A bus write changes at most the PRG-RAM byte that its address selects. -/
theorem busWrite_prgRam {a : Addr} {v : Byte} {s : State} {r u : Mmc1} (hlegal : s.cart.Legal)
    (hbefore : s.cart.mapper = .mmc1 r) (hafter : (busWrite a v s).cart.mapper = .mmc1 u) {k : Nat}
    (hk : ¬ (0x6000 ≤ a.toNat ∧ a.toNat ≤ 0x7FFF ∧ k = a.toNat - 0x6000)) :
    Memory.read u.prgRam k = Memory.read r.prgRam k := by
  obtain ⟨hrange, -, -, hprgRam⟩ := hlegal
  obtain ⟨-, -, -, -, -, hmapper⟩ := s.cart.inRange_iff.mp hrange
  rw [hbefore] at hprgRam
  simp only [Cartridge.mapperInRange, hbefore, decide_eq_true_eq] at hmapper
  rcases Nat.lt_or_ge a.toNat 0x6000 with hlow | hlow
  · have hkept : (busWrite a v s).cart.mapper = s.cart.mapper := (writesReachOneDevice a v s).2.2.2.2.2.1 hlow
    rw [hkept, hbefore] at hafter
    obtain rfl := Mapper.mmc1.inj hafter
    rfl
  rcases Nat.lt_or_ge a.toNat 0x8000 with hram | hrom
  · rw [busWrite_mmc1_ram v hbefore hlow (by omega)] at hafter
    obtain rfl := Mapper.mmc1.inj hafter
    exact Memory.read_write_other (by omega) hprgRam
  · rw [busWrite_mmc1_serial v hbefore hrom] at hafter
    obtain rfl := Mapper.mmc1.inj hafter
    rw [(r.serialWrite_frame a v hmapper).2]

/-! ### The obligations -/

/-- Settles O23: the pulls of `RTS` and `RTI` reach the cells that the entry pushed, and a legal status survives the push. -/
theorem returnsMatchEntries : Obligations.ReturnsMatchEntries := by
  intro s b1 b2 hwf hlegal
  obtain ⟨hbrk, hnmi⟩ := statusOfPulled_pushed s.p hlegal.1 hlegal.2
  refine ⟨?jsr, ?brk, ?nmi⟩
  case jsr =>
    have hentry : exec (.jsrAbs b1 b2) s = .next _ := congrArg Host.Outcome.next (jumpSubroutine_abs b1 b2 6 s)
    exact ⟨_, _, hentry, rts_of_jsr hwf rfl rfl, rfl, rfl, rfl, rfl, rfl, rfl⟩
  case brk =>
    have hentry : exec .brk s = .next _ := congrArg Host.Outcome.next (impliedInstr_softwareInterrupt 7 s)
    exact ⟨_, _, hentry, rti_of_entry hwf rfl rfl, rfl, rfl, rfl, rfl, rfl, hbrk⟩
  case nmi =>
    rw [nmiEntry_eq]
    exact ⟨_, rti_of_entry hwf rfl rfl, rfl, rfl, rfl, rfl, rfl, hnmi⟩

/-- Settles O25: the effect of a reading instruction changes registers and flags only, after reads. -/
theorem readInstructionFrame : Obligations.ReadInstructionFrame := by
  intro i s hi
  obtain ⟨effect, heffect⟩ := readEffect_of_mem hi
  have hreads := operand_reads i.operand s
  have hframe := readEffect_frame heffect (operandByte i.operand (locate i.operand s).1.ea (locate i.operand s).2).1
    (operandByte i.operand (locate i.operand s).1.ea (locate i.operand s).2).2
  have hexec := exec_read heffect s
  simp only [readInstr] at hexec
  generalize operandByte i.operand (locate i.operand s).1.ea (locate i.operand s).2 = m at hreads hframe hexec
  obtain ⟨heq, ha, hx, hy, hflags, hoverflow, hcarry⟩ := hframe
  refine ⟨_, hexec, ?_, ?_, fun h => (ha h).trans hreads.a, fun h => (hx h).trans hreads.x,
    fun h => (hy h).trans hreads.y, fun f hf => (hflags f hf).trans (hreads.flag f),
    fun h => (hoverflow h).trans (hreads.flag _), fun h => (hcarry h).trans (hreads.flag _), ?_⟩
  · rw [charge_sp, heq]
    exact hreads.sp
  · rw [charge_pc, heq]
    exact hreads.pc
  · have hsame := hreads.same heq
    exact hsame

/-- Settles O26: one bus write, which reaches what lies behind its address. -/
theorem storeInstructionFrame : Obligations.StoreInstructionFrame := by
  intro i s hmemory hcart hi hacc
  have hwrite : WritesOnce i s := writesOnce_of_mem hi hacc
  unfold WritesOnce at hwrite
  dsimp only at hwrite ⊢
  generalize (locate i.operand s).1.ea = ea at hwrite ⊢
  obtain ⟨u, v, p, cycles, hexec, hreads, hstate, hflags, hplain⟩ := hwrite
  obtain ⟨hram, hppu, hchr, -, -, -, hprg, -, ⟨ha, hx, hy, hsp, hpc, -⟩, -, -, -⟩ := writesReachOneDevice ea v u
  have hstored (source : State → Byte) (hs : storeSource i.mnemonic = some source) (hlow : ea.toNat ≤ 0x1FFF) :
      Memory.read (busWrite ea v u).ram (ea.toNat % 0x800) = source s := by
    rw [busWrite_at_ram v u hlow, (hplain source hs).1, hreads.ram]
    exact Memory.read_write_same hmemory.1
  refine ⟨_, hexec, ha.trans hreads.a, hx.trans hreads.x, hy.trans hreads.y, hsp.trans hreads.sp, hpc.trans hreads.pc,
    fun f hf => hflags f (by fin_cases hf <;> decide), fun h => ?status, fun k hk => ?ram,
    fun r w hr hw k hk => busWrite_prgRam (hreads.cart ▸ hcart) (hreads.cart ▸ hr) hw hk, fun hout hdma => ?ppu, ?prg,
    fun hlow => ⟨?rest, fun h => hstored _ (congrArg storeSource h) hlow, fun h => hstored _ (congrArg storeSource h) hlow,
      fun h => hstored _ (congrArg storeSource h) hlow⟩⟩
  case status =>
    obtain ⟨source, hs⟩ : ∃ source, storeSource i.mnemonic = some source := by
      generalize i.mnemonic = n at h
      fin_cases h <;> exact ⟨_, rfl⟩
    exact (hplain source hs).2
  case ram =>
    rcases Nat.lt_or_ge ea.toNat 0x2000 with hlow | hhigh
    · rw [busWrite_at_ram v u (by omega), hreads.ram]
      exact Memory.read_write_other (by omega) hmemory.1
    · rw [hram hhigh, hreads.ram]
  case ppu =>
    rw [hppu hout hdma, (hchr hout).2]
    exact ⟨hreads.ppu_vram, hreads.ppu_oam, congrArg Cartridge.chr hreads.cart⟩
  case prg =>
    rw [hprg, hreads.cart]
  case rest =>
    rw [hstate hlow, busWrite_at_ram v s hlow]

/-- Settles O27: pushes write page 1, and the instructions that pull only read. -/
theorem stackStaysInPageOne : Obligations.StackStaysInPageOne := by
  refine fun s hwf => ⟨fun b1 b2 i hi => ?_, ?_, fun i hi => ?_⟩
  · fin_cases hi
    · exact ⟨_, rfl, (stackOnly_push s.a s hwf).2⟩
    · exact ⟨_, rfl, (stackOnly_push (pushedByBrk s.p) s hwf).2⟩
    · exact ⟨_, rfl, (stackOnly_push16 (s.pc - 1) s hwf).2⟩
    · exact ⟨_, rfl, (stackOnly_takeInterrupt (pushedByBrk s.p) 0xFFFE { s with pc := s.pc + 1 } hwf).2⟩
  · exact (stackOnly_takeInterrupt (pushedByNmi s.p) 0xFFFA { s with nmiPending := false } hwf).2
  · fin_cases hi
    · exact ⟨_, congrArg Host.Outcome.next (impliedInstr_pullA 4 s), fun _ => rfl, fun _ => rfl, fun _ => rfl, rfl⟩
    · exact ⟨_, congrArg Host.Outcome.next (impliedInstr_pullP 4 s), fun _ => rfl, fun _ => rfl, fun _ => rfl, rfl⟩
    · exact ⟨_, congrArg Host.Outcome.next (impliedInstr_returnSubroutine 6 s), fun _ => rfl, fun _ => rfl, fun _ => rfl,
        rfl⟩
    · exact ⟨_, congrArg Host.Outcome.next (impliedInstr_returnFromInterrupt 6 s), fun _ => rfl, fun _ => rfl,
        fun _ => rfl, rfl⟩

end Sys2Proof.Machine
end
